-- ==== Sys2Proof/Word.lean ====
section
/-! DEFINITION. The SK-16's plain data words: bytes, eight-byte names, key material, index maps (00_scope.md, "Conventions"). -/

namespace Sys2Proof

/-- One character of a link, or one byte of a field (R158). -/
abbrev Byte := BitVec 8

/-- The 8-byte name of a key (R47). -/
abbrev Label := BitVec 64

/-- The 8-byte identity a screen server announces (R166). -/
abbrev Identity := BitVec 64

/-- The 16 bytes of unsealed key material (R50). -/
abbrev Material := BitVec 128

/-- The 32-byte sealed form of key material (R50). -/
abbrev SealedMaterial := BitVec 256

/-- A screen, lane or port map: bit n stands for index n (R188). -/
abbrev ScreenMap := BitVec 16

/-- A kind map as a request carries it: bit k stands for the event kind of code k (R188). -/
abbrev KindMap := BitVec 24

/-- A 16-bit tag a screen server gives a reel (R74). -/
abbrev ReelTag := BitVec 16

/-- The index that screen n, lane n and screen port n share (00_scope.md, "Screen index"). -/
abbrev LaneIx := Fin 16

/-- The sixteen indices in rising order. -/
def allLanes : List LaneIx := [0, 1, 2, 3, 4, 5, 6, 7, 8, 9, 10, 11, 12, 13, 14, 15]

end Sys2Proof
end

