-- ==== Sys2Proof/Config.lean ====
section
/-! DEFINITION. What the manual fixes for the part (its principal figures) and what it leaves open (values without a body). -/

namespace Sys2Proof.Config

/-- The greatest site time (00_scope.md, "Site time"). -/
def maxTime : Nat := 4294967295

/-- Where u_ms stops growing (R36). -/
def maxUMs : Nat := 3600000

/-- Where a counter stops (00_scope.md, "Counters"). -/
def maxCount : Nat := 65535

/-- The places of a transmit list (R164). -/
def txPlaces : Nat := 32

/-- The free places a request needs before it is taken (R163). -/
def takePlaces : Nat := 8

/-- The places of an outstanding withdrawal list (R134). -/
def outstandingPlaces : Nat := 4

/-- Cycles of the retained oscillator in one second (R23). -/
def oscSecond : Nat := 32768

/-- Oscillator cycles from the start of a superframe to its end instant at period 104: 104 periods of 256 cycles, which is
the 0.8125 s that R23 and R31 count. DEDUCED, log 7. -/
def oscAtSuperframeEnd : Nat := 26624

/-- One bit period of the reference line in nanoseconds: a second over 128 (1.1). DESIGN CHOICE of the unit, log 8. -/
def periodNs : Nat := 7812500

/-- Consecutive missing transitions that make the line SILENT (R2). -/
def silentRun : Nat := 32

/-- Periods of a clean window (R3). -/
def cleanWindow : Nat := 64

/-- How long the site hold line must hold a level to be taken, in milliseconds (R94). -/
def siteHoldMs : Nat := 200

/-- The longest gap between two characters of a frame, in microseconds (R160). -/
def maxGapMicros : Nat := 2000

/-- The greatest body of a frame (R159). -/
def maxBody : Nat := 96

/-- The sync character (R159). -/
def sync : Byte := 0xC3

/-- The sealing of 16 bytes of material to the identity of a screen server. The manual treats the transform only through its
outcomes, so its 32 bytes are a free value. DESIGN CHOICE, log 13. -/
opaque sealTo : Identity → Material → SealedMaterial

/-- The tag byte of a notice frame, which no rule states: a free value for each frame kind. DESIGN CHOICE, log 14. -/
opaque noticeTag : Byte → Byte

/-- The serial bytes of a BUFFER FREE whose reason is REVOKED, which no rule states: a free value for each reel tag.
DESIGN CHOICE, log 14. -/
opaque unstatedSerial : ReelTag → BitVec 16

end Sys2Proof.Config
end

