-- ==== Sys2Proof/Syntax.lean ====
section
/-! DEFINITION. The commands the SK-16 takes: the requests of its ports (R171, R187) and the 56 rows of the table of operations and events. -/

namespace Sys2Proof

/-- The seventeen serial ports (7, "Ports and Links"). -/
inductive PortId where
  /-- the management port -/
  | mgmt
  /-- screen port n -/
  | screen (n : LaneIx)
deriving DecidableEq, Repr

/-- A receiver of the elapsed tick whose share of one tick the queue may ask for as a command of its own (log 4). -/
inductive TickPart where
  /-- the Reference Framer's fail timer (R19) -/
  | framer
  /-- lane n's countdown or hold timer (R84, R97) -/
  | lane (n : LaneIx)
  /-- the timing out of lane n's entries and clearing (R137, R148) -/
  | release (n : LaneIx)
deriving DecidableEq, Repr

/-- The body of a request, field by field (R187). A value that its owner judges stands as the wire carries it; a flag is
read as R188 reads it. -/
inductive Request where
  | announce (identity : Identity)
  | queueReel (slot : BitVec 16) (label : Label) (d : BitVec 16) (tie : Bool) (reelTag : ReelTag)
  | stopShow
  | holdShow
  | resumeShow
  | erased (serial : BitVec 16)
  | erasedAll
  | laneStatus (lane : Byte)
  | clockStatus
  /-- `unsealed` is the outcome of the site's keying scheme on the sealed material: the 16 bytes it unseals to, or none
  where it fails to unseal (log 13). -/
  | loadKey (slot : BitVec 16) (label : Label) (nb na : BitVec 32) (a : BitVec 16) (c : Byte) (screens : ScreenMap)
      (sealedMaterial : SealedMaterial) (unsealed : Option Material)
  | revokeKey (slot : BitVec 16)
  | purgeKey (slot : BitVec 16)
  | keyStatus (slot : BitVec 16)
  /-- an absent identity is ANY -/
  | setPort (port : Byte) (identity : Option Identity) (role classes : Byte)
  | lockPolicy
  | setClockParameters (r uc : Option (BitVec 16)) (k e : Option Byte) (checkLoss : Option Bool) (failTime : Option Byte)
      (strict : Option Bool)
  | setLaneParameters (lane : Byte) (wt : Option Byte) (l : Option (BitVec 16)) (dt : Option Byte)
  | seedTime (value : BitVec 32) (s : BitVec 16)
  | reframe
  | restoreLane (lane : Byte)
  | voidHoldings (lane : Byte)
  | statusSummary
  | clearSticky (kinds : KindMap) (lanes : ScreenMap) (slots : List (BitVec 16))
  | setEventMask (kinds : KindMap)
  | clearCounters
deriving DecidableEq, Repr

/-- The commands, one constructor for each row of the table of operations and events. A request row carries the port on
which its frame arrives and the frame's tag (log 2). -/
inductive Instr where
  /-- R2: the missing-transition run has reached 32 -/
  | silenceEntry
  /-- R3: a clean window is complete -/
  | cleanWindow
  /-- R6: a pattern match in SEARCH -/
  | candidatePosition
  /-- R7, R8: a pattern match at a wrong offset in CONFIRM -/
  | mimic
  /-- R7: the test at p + 128 with strict acquisition off -/
  | confirmTest
  /-- R8: the tests at p + 128, p + 256 and p + 304 with strict acquisition on; `lanesFirst`: at a step the lanes take the
  step notice before the Key Table (log 11) -/
  | strictConfirmTest (lanesFirst : Bool)
  /-- R10: superframe period 0 starts; `apart`: see `elapsedTick`, for the tick this is in ASSURED -/
  | superframeStart (apart : List TickPart)
  /-- R11: the alignment test at period 56 -/
  | alignmentTest
  /-- R12, R15: the superframe end at period 104; `lanesFirst` as in `strictConfirmTest` -/
  | superframeEnd (lanesFirst : Bool)
  /-- R16 -/
  | reframe (p : PortId) (tag : Byte)
  /-- R19: the framer's share of a tick, where it raises the alarm -/
  | referenceFailed
  /-- R24: an oscillator tick; `apart`: the shares of it that are left to commands of their own (log 4) -/
  | elapsedTick (apart : List TickPart)
  /-- R37: the holdover tick at which U exceeds Uc -/
  | ceilingPassed (apart : List TickPart)
  /-- R40 -/
  | seedTime (p : PortId) (tag : Byte) (value : BitVec 32) (s : BitVec 16)
  /-- R41: an absent field is none -/
  | setClockParameters (p : PortId) (tag : Byte) (r uc : Option (BitVec 16)) (k e : Option Byte) (checkLoss : Option Bool)
      (failTime : Option Byte) (strict : Option Bool)
  /-- R43 -/
  | clockStatus (p : PortId) (tag : Byte)
  /-- R44, R181 -/
  | mainPowerFail
  /-- R182: the Retained Domain's supply falls below the holding level -/
  | validityMarkerBad
  /-- R183: main returns; the straps as they are read (tied is true) -/
  | mainPowerUp (fit1 fit0 : Bool)
  /-- R184 -/
  | resetAssert
  /-- R184: the straps as they are read at the release -/
  | resetRelease (fit1 fit0 : Bool)
  /-- R53 -/
  | loadKey (p : PortId) (tag : Byte) (slot : BitVec 16) (label : Label) (nb na : BitVec 32) (a : BitVec 16) (c : Byte)
      (screens : ScreenMap) (sealedMaterial : SealedMaterial) (unsealed : Option Material)
  /-- R62 -/
  | revokeKey (p : PortId) (tag : Byte) (slot : BitVec 16)
  /-- R65 -/
  | purgeKey (p : PortId) (tag : Byte) (slot : BitVec 16)
  /-- R70 -/
  | keyStatus (p : PortId) (tag : Byte) (slot : BitVec 16)
  /-- R80 -/
  | queueReel (p : PortId) (tag : Byte) (slot : BitVec 16) (label : Label) (d : BitVec 16) (tie : Bool) (reelTag : ReelTag)
  /-- R85: lane n's share of a tick, where R reaches 0 -/
  | boundary (n : LaneIx)
  /-- R90 -/
  | stopShow (p : PortId) (tag : Byte)
  /-- R91 -/
  | holdShow (p : PortId) (tag : Byte)
  /-- R92 -/
  | resumeShow (p : PortId) (tag : Byte)
  /-- R94: the hold line changes to a level (asserted is true) -/
  | siteHoldLineChange (asserted : Bool)
  /-- R95: `ms` further milliseconds have passed with the hold line asserted and unchanged -/
  | siteHoldAssertion (ms : Nat)
  /-- R96: `ms` further milliseconds have passed with the hold line released and unchanged -/
  | siteHoldRelease (ms : Nat)
  /-- R97: lane n's share of a tick, where the hold timer reaches the hold limit taken -/
  | holdLimit (n : LaneIx)
  /-- R105: lane 0xFF is ALL -/
  | setLaneParameters (p : PortId) (tag : Byte) (lane : Byte) (wt : Option Byte) (l : Option (BitVec 16)) (dt : Option Byte)
  /-- R107 -/
  | laneStatus (p : PortId) (tag : Byte) (lane : Byte)
  /-- R137: lane n's entries whose countdown has reached 0 time out -/
  | withdrawalTimeout (n : LaneIx)
  /-- R138 -/
  | erased (p : PortId) (tag : Byte) (serial : BitVec 16)
  /-- R141 -/
  | erasedAll (p : PortId) (tag : Byte)
  /-- R146 -/
  | restoreLane (p : PortId) (tag : Byte) (lane : Byte)
  /-- R148: lane n's clearing countdown has reached 0 -/
  | clearingTimeout (n : LaneIx)
  /-- R150 -/
  | voidHoldings (p : PortId) (tag : Byte) (lane : Byte)
  /-- R159: characters arrive without a gap, the last of them completing a frame; `unsealed`: the outcome of the keying
  scheme on the sealed material of a LOAD KEY frame among them (log 13, log 23) -/
  | frameComplete (p : PortId) (chars : List Byte) (unsealed : Option Material)
  /-- R160: after `before`, a gap of `gapMicros` and then the character `char`; `unsealed` as in `frameComplete` -/
  | gapError (p : PortId) (before : List Byte) (gapMicros : Nat) (char : Byte) (unsealed : Option Material)
  /-- R163 -/
  | requestTaken (p : PortId)
  /-- R164: the last character of the first waiting frame has been sent -/
  | frameSent (p : PortId)
  /-- R167, R168 -/
  | announce (p : PortId) (tag : Byte) (identity : Identity)
  /-- R169 -/
  | setPort (p : PortId) (tag : Byte) (port : Byte) (identity : Option Identity) (role classes : Byte)
  /-- R170 -/
  | lockPolicy (p : PortId) (tag : Byte)
  /-- R175 -/
  | setEventMask (p : PortId) (tag : Byte) (kinds : KindMap)
  /-- R176 -/
  | statusSummary (p : PortId) (tag : Byte)
  /-- R177 -/
  | clearSticky (p : PortId) (tag : Byte) (kinds : KindMap) (lanes : ScreenMap) (slots : List (BitVec 16))
  /-- R178 -/
  | clearCounters (p : PortId) (tag : Byte)
  /-- R1: the present bit period ends -/
  | bitPeriodEnd
  /-- R1: a transition of the line, `ns` nanoseconds after the last transition or period end -/
  | referenceLineTransition (ns : Nat)
  /-- R159: characters arrive without a gap, the last of them a length above 96; `unsealed` as in `frameComplete` -/
  | lengthAbove96 (p : PortId) (chars : List Byte) (unsealed : Option Material)
deriving DecidableEq, Repr

end Sys2Proof
end

