-- ==== Sys2Proof/WellFormed.lean ====
section
/-! DEFINITION. Which commands the outside can send: those the wire, the line and the pins can carry. No meaning rests on these checks. -/

namespace Sys2Proof

/-- A CLEAR STICKY body carries at most 45 slots (R187). -/
def Request.wellFormed : Request → Bool
  | .clearSticky _ _ slots => slots.length ≤ 45
  | _ => true

/-- The tick's separate shares are named at most once each (log 4). -/
def apartWellFormed (apart : List TickPart) : Bool := decide apart.Nodup

/-- What the outside must keep to: at most 45 slots to a CLEAR STICKY (R187), no share of a tick named twice, a gap of more
than 2 ms (R160), a length above 96 as the last character (R159), at least one character in a run. -/
def Instr.wellFormed : Instr → Bool
  | .clearSticky _ _ kinds lanes slots => (Request.clearSticky kinds lanes slots).wellFormed
  | .superframeStart apart => apartWellFormed apart
  | .elapsedTick apart => apartWellFormed apart
  | .ceilingPassed apart => apartWellFormed apart
  | .frameComplete _ chars _ => !chars.isEmpty
  | .gapError _ _ gapMicros _ _ => decide (Config.maxGapMicros < gapMicros)
  | .lengthAbove96 _ chars _ => chars.getLast?.any (fun c => decide (Config.maxBody < c.toNat))
  | _ => true

end Sys2Proof
end

