-- ==== Sys2Proof/Decode.lean ====
section
/-! DEFINITION. Reading a request's fields from the body of its frame, and writing them (R187, R188); the table's words, of which there are none. -/

namespace Sys2Proof

/-! ## Byte order (00_scope.md, "Byte order": most significant byte first) -/

/-- The number a run of bytes spells. -/
def beNat (bytes : List Byte) : Nat := bytes.foldl (fun n b => n * 256 + b.toNat) 0

/-- The lowest `k` bytes of a number. -/
def beBytes : Nat → Nat → List Byte
  | 0, _ => []
  | k + 1, v => BitVec.ofNat 8 (v / 256 ^ k) :: beBytes k v

/-- The field of `len` bytes at offset `at'` of a body, as a word of `w` bits. -/
def fieldAt (w : Nat) (body : List Byte) (at' len : Nat) : BitVec w := BitVec.ofNat w (beNat ((body.drop at').take len))

/-- The byte at an offset of a body. -/
def byteAt (body : List Byte) (at' : Nat) : Byte := body.getD at' 0

/-- A flag byte: 0 is clear, any other value set (R188). -/
def flagAt (body : List Byte) (at' : Nat) : Bool := byteAt body at' != 0

/-- A field whose presence byte has bit `bit` set, absent otherwise (R187). -/
def presentField {α : Type} (presence : Byte) (bit : Nat) (field : α) : Option α :=
  if presence.getLsbD bit then some field else none

/-- The slots of a CLEAR STICKY, two bytes each (R187). -/
def slotFields : List Byte → List (BitVec 16)
  | hi :: lo :: rest => (hi ++ lo) :: slotFields rest
  | _ => []

/-! ## Kinds (R187) -/

/-- The code under which a request kind is sent and recognised (R187). -/
def Request.kind : Request → Byte
  | .announce .. => 0x01
  | .queueReel .. => 0x02
  | .stopShow => 0x03
  | .holdShow => 0x04
  | .resumeShow => 0x05
  | .erased .. => 0x06
  | .erasedAll => 0x07
  | .laneStatus .. => 0x08
  | .clockStatus => 0x09
  | .loadKey .. => 0x10
  | .revokeKey .. => 0x11
  | .purgeKey .. => 0x12
  | .keyStatus .. => 0x13
  | .setPort .. => 0x14
  | .lockPolicy => 0x15
  | .setClockParameters .. => 0x16
  | .setLaneParameters .. => 0x17
  | .seedTime .. => 0x18
  | .reframe => 0x19
  | .restoreLane .. => 0x1A
  | .voidHoldings .. => 0x1B
  | .statusSummary => 0x1C
  | .clearSticky .. => 0x1D
  | .setEventMask .. => 0x1E
  | .clearCounters => 0x1F

/-! ## Bodies (R187) -/

/-- The request a frame of this kind and body carries, and none where the kind is no request kind or the body's length is
not one permitted for it (R159, R187). `unsealed` is the outcome of the keying scheme on the sealed material, which the
bytes do not carry (log 13). -/
def decodeRequest (kind : Byte) (body : List Byte) (unsealed : Option Material) : Option Request :=
  let sized (n : Nat) (r : Request) : Option Request := if body.length = n then some r else none
  match kind.toNat with
  | 0x01 => sized 8 (.announce (fieldAt 64 body 0 8))
  | 0x02 => sized 15 (.queueReel (fieldAt 16 body 0 2) (fieldAt 64 body 2 8) (fieldAt 16 body 10 2) (flagAt body 12)
      (fieldAt 16 body 13 2))
  | 0x03 => sized 0 .stopShow
  | 0x04 => sized 0 .holdShow
  | 0x05 => sized 0 .resumeShow
  | 0x06 => sized 2 (.erased (fieldAt 16 body 0 2))
  | 0x07 => sized 0 .erasedAll
  | 0x08 => sized 1 (.laneStatus (byteAt body 0))
  | 0x09 => sized 0 .clockStatus
  | 0x10 => sized 55 (.loadKey (fieldAt 16 body 0 2) (fieldAt 64 body 2 8) (fieldAt 32 body 10 4) (fieldAt 32 body 14 4)
      (fieldAt 16 body 18 2) (byteAt body 20) (fieldAt 16 body 21 2) (fieldAt 256 body 23 32) unsealed)
  | 0x11 => sized 2 (.revokeKey (fieldAt 16 body 0 2))
  | 0x12 => sized 2 (.purgeKey (fieldAt 16 body 0 2))
  | 0x13 => sized 2 (.keyStatus (fieldAt 16 body 0 2))
  | 0x14 => sized 12 (.setPort (byteAt body 0) (if flagAt body 1 then some (fieldAt 64 body 2 8) else none) (byteAt body 10)
      (byteAt body 11))
  | 0x15 => sized 0 .lockPolicy
  | 0x16 =>
    let p := byteAt body 0
    sized 10 (.setClockParameters (presentField p 0 (fieldAt 16 body 1 2)) (presentField p 1 (fieldAt 16 body 3 2))
      (presentField p 2 (byteAt body 5)) (presentField p 3 (byteAt body 6)) (presentField p 4 (flagAt body 7))
      (presentField p 5 (byteAt body 8)) (presentField p 6 (flagAt body 9)))
  | 0x17 =>
    let p := byteAt body 1
    sized 6 (.setLaneParameters (byteAt body 0) (presentField p 0 (byteAt body 2)) (presentField p 1 (fieldAt 16 body 3 2))
      (presentField p 2 (byteAt body 5)))
  | 0x18 => sized 6 (.seedTime (fieldAt 32 body 0 4) (fieldAt 16 body 4 2))
  | 0x19 => sized 0 .reframe
  | 0x1A => sized 1 (.restoreLane (byteAt body 0))
  | 0x1B => sized 1 (.voidHoldings (byteAt body 0))
  | 0x1C => sized 0 .statusSummary
  | 0x1D =>
    if 5 ≤ body.length ∧ body.length ≤ 95 ∧ body.length % 2 = 1 then
      some (.clearSticky (fieldAt 24 body 0 3) (fieldAt 16 body 3 2) (slotFields (body.drop 5)))
    else none
  | 0x1E => sized 3 (.setEventMask (fieldAt 24 body 0 3))
  | 0x1F => sized 0 .clearCounters
  | _ => none

/-- A flag as one byte. -/
def flagByte (b : Bool) : Byte := if b then 1 else 0

/-- One bit of a presence byte. -/
def presenceBit {α : Type} (bit : Nat) (field : Option α) : Nat := if field.isSome then 2 ^ bit else 0

/-- The body of a request, its fields most significant byte first, absent ones as zeros (R187). -/
def Request.body : Request → List Byte
  | .announce identity => beBytes 8 identity.toNat
  | .queueReel slot label d tie reelTag =>
    beBytes 2 slot.toNat ++ beBytes 8 label.toNat ++ beBytes 2 d.toNat ++ [flagByte tie] ++ beBytes 2 reelTag.toNat
  | .erased serial => beBytes 2 serial.toNat
  | .laneStatus lane => [lane]
  | .loadKey slot label nb na a c screens sealedMaterial _ =>
    beBytes 2 slot.toNat ++ beBytes 8 label.toNat ++ beBytes 4 nb.toNat ++ beBytes 4 na.toNat ++ beBytes 2 a.toNat ++ [c]
      ++ beBytes 2 screens.toNat ++ beBytes 32 sealedMaterial.toNat
  | .revokeKey slot => beBytes 2 slot.toNat
  | .purgeKey slot => beBytes 2 slot.toNat
  | .keyStatus slot => beBytes 2 slot.toNat
  | .setPort port identity role classes =>
    [port, flagByte identity.isSome] ++ beBytes 8 (identity.getD 0).toNat ++ [role, classes]
  | .setClockParameters r uc k e checkLoss failTime strict =>
    BitVec.ofNat 8 (presenceBit 0 r + presenceBit 1 uc + presenceBit 2 k + presenceBit 3 e + presenceBit 4 checkLoss
        + presenceBit 5 failTime + presenceBit 6 strict)
      :: beBytes 2 (r.getD 0).toNat ++ beBytes 2 (uc.getD 0).toNat
      ++ [k.getD 0, e.getD 0, flagByte (checkLoss.getD false), failTime.getD 0, flagByte (strict.getD false)]
  | .setLaneParameters lane wt l dt =>
    [lane, BitVec.ofNat 8 (presenceBit 0 wt + presenceBit 1 l + presenceBit 2 dt), wt.getD 0]
      ++ beBytes 2 (l.getD 0).toNat ++ [dt.getD 0]
  | .seedTime value s => beBytes 4 value.toNat ++ beBytes 2 s.toNat
  | .restoreLane lane => [lane]
  | .voidHoldings lane => [lane]
  | .clearSticky kinds lanes slots =>
    beBytes 3 kinds.toNat ++ beBytes 2 lanes.toNat ++ slots.flatMap (fun s => beBytes 2 s.toNat)
  | .setEventMask kinds => beBytes 3 kinds.toNat
  | .stopShow | .holdShow | .resumeShow | .erasedAll | .clockStatus | .lockPolicy | .reframe | .statusSummary
  | .clearCounters => []

/-- The outcome of the keying scheme that a request carries beside its bytes (log 13). -/
def Request.unsealed : Request → Option Material
  | .loadKey _ _ _ _ _ _ _ _ m => m
  | _ => none

/-! ## The frame check (R186) -/

/-- One bit into the CRC-16 register (R186). -/
def crc16Bit (reg : BitVec 16) (bit : Bool) : BitVec 16 :=
  let shifted := reg <<< 1
  if xor reg.msb bit then shifted ^^^ 0x1021#16 else shifted

/-- One byte into the CRC-16 register, most significant bit first (R186). -/
def crc16Byte (reg : BitVec 16) (b : Byte) : BitVec 16 :=
  [7, 6, 5, 4, 3, 2, 1, 0].foldl (fun r i => crc16Bit r (b.getLsbD i)) reg

/-- The check of a frame over its length, kind, tag and body (R186). -/
def crc16 (bytes : List Byte) : BitVec 16 := bytes.foldl crc16Byte 0xFFFF#16

/-! ## The table's words -/

/-- The command a word of the table spells. No row of the table gives bits, so no word spells one. -/
def decodeTableWord (_nbits _w : Nat) : Option Instr := none

end Sys2Proof
end

