-- ==== Sys2Proof/Machine/State.lean ====
section
/-! DEFINITION. Everything the spec gives the SK-16 to hold, block by block, as plain data; the messages its ports carry; and its state right after reset. -/

namespace Sys2Proof.Machine

/-! ## Names -/

/-- The values of a reference-line bit (R1). -/
inductive LineBit where
  | zero | one | invalid
deriving DecidableEq, Repr

/-- The framer's four states (1.3). -/
inductive FramerState where
  | silent | search | confirm | aligned
deriving DecidableEq, Repr

/-- The time states (R25). -/
inductive TimeState where
  | noTime | assured | holdover | unassured
deriving DecidableEq, Repr

/-- The causes of a change of time state (R25). -/
inductive TimeCause where
  | confirmed | silence | errored | check | reframe | misses | ceiling | parameter | seed | power
deriving DecidableEq, Repr

/-- The states of an occupied slot (R48); a slot that holds no record is EMPTY. -/
inductive KeyState where
  | waiting | opened | closing | expired | revoked
deriving DecidableEq, Repr

/-- The causes of a KEY STATE event (R174). -/
inductive KeyCause where
  | loaded | window | revoked | purged
deriving DecidableEq, Repr

/-- The lane states (R73). -/
inductive LaneState where
  | offline | clearing | idle | playing | held | quarantine
deriving DecidableEq, Repr

/-- The causes of entry into QUARANTINE (R144). -/
inductive QuarantineCause where
  | listFull | withdrawalTimeout | clearingTimeout | identityChange
deriving DecidableEq, Repr

/-- The roles of a binding entry, in the order of their codes (R166, R188). -/
inductive Role where
  | disabled | screen | observer
deriving DecidableEq, Repr

/-- Why a bound port became UNBOUND (R168, R169). -/
inductive UnboundCause where
  | identityChange | setPort
deriving DecidableEq, Repr

/-- The lamp's patterns (R179). -/
inductive Lamp where
  | off | fast | slow | steady
deriving DecidableEq, Repr

/-- The outcomes of a request, in the order of their codes (R189). The refusal reasons of the checks are among them. -/
inductive Answer where
  | accepted | replaced | notBound | notPermitted | badField | wrongState | locked | slotOccupied | slotEmpty
  | duplicateLabel | windowInvalid | windowPassed | sealFailed | held | laneUnavailable | noKey | keyChanged | revoked
  | expired | notAuthorized | timeUnassured | notYet | tooLate | runsPast | oversubscribed | linkDegraded | unknownGrant
deriving DecidableEq, Repr

/-- The reasons of SHOW ENDED (R78): the events that end a show, or the reason a check returned. EXPIRED and REVOKED are the
answers of those names, under one code with the check's (R189). -/
inductive ShowReason where
  | complete | stopped | holdLimit | screenErased | quarantine
  | refused (reason : Answer)
deriving DecidableEq, Repr

/-- The reasons of BUFFER FREE (R63, R87). -/
inductive FreeReason where
  | loaded | revoked
deriving DecidableEq, Repr

/-- Which grant an ERASED matched (R138, R139). -/
inductive GrantMatch where
  | outstanding | active
deriving DecidableEq, Repr

/-- The outcome of the end-bound re-check as a RESUME SHOW reports it (R92): not run, or run with a refusal or a pass. -/
inductive Recheck where
  | notRun
  | ran (refusal : Option Answer)
deriving DecidableEq, Repr

/-- The seventeen event kinds in the order of their codes (R174, R188). -/
inductive EventKind where
  | timeState | timeStep | referenceFailed | referenceRestored | referenceRegressed | alignmentChanged | broadcastChanged
  | keyState | oversubscribed | laneQuarantined | laneCleared | portBound | portUnbound | portDegraded | portRecovered
  | noticeLost | backupLost
deriving DecidableEq, Repr

/-! ## Reference Framer (chapter 1) -/

/-- A candidate alignment in CONFIRM (R6 to R8): its position, the periods since, the strict setting taken with it, and the
covered bits of the second superframe once they have been gathered. -/
structure Candidate where
  position : Nat
  age : Nat
  strict : Bool
  gathered : Option (List LineBit)
deriving DecidableEq, Repr

/-- The framer's six counters (R20). -/
structure FramerCounters where
  errored : Nat
  checkErrors : Nat
  mimics : Nat
  losses : Nat
  silences : Nat
  changes : Nat
deriving DecidableEq, Repr

/-- The Reference Framer (R22). `history` has the latest period first; `linePhase` is the phase of the period in progress.
`fresh` and `tickOwed` are the model's own: the tests of the period that has just ended are still to be made (log 3), and the
fail timer has not yet taken its share of the last tick (log 26). -/
structure Framer where
  state : FramerState
  history : List LineBit
  linePhase : Nat
  missingRun : Nat
  gridPhase : Nat
  startSeen : Bool
  midSeen : Bool
  nextStart : Bool
  clean : Nat
  candidate : Option Candidate
  lastPosition : Option Nat
  lossWindow : List Bool
  checkEnds : Nat
  checkFails : Nat
  kTaken : Nat
  eTaken : Nat
  checkLossTaken : Bool
  awaiting : Option (List LineBit)
  heldBytes : Option (List Byte)
  captured : Option (List Byte)
  lastSource : Option Nat
  lastQuality : Option Nat
  failTimer : Nat
  alarm : Bool
  counters : FramerCounters
  fresh : Bool
  tickOwed : Bool
deriving DecidableEq, Repr

/-! ## Site Clock (chapter 2) -/

/-- The clock parameters (R41). -/
structure ClockParams where
  r : Nat
  uc : Nat
  k : Nat
  e : Nat
  checkLoss : Bool
  failTime : Nat
  strict : Bool
deriving DecidableEq, Repr

/-- The last step record (R30). -/
structure StepRecord where
  delta : Int
  excess : Bool
  t : Nat
deriving DecidableEq, Repr

/-- The Site Clock (2, "The clock's state is"). T and u_ms are absent in NO TIME; U is computed from u_ms (R36). -/
structure Clock where
  time : TimeState
  t : Option Nat
  uMs : Option Nat
  u0 : Nat
  acc : Nat
  h : Option Nat
  floor : Nat
  miss : Nat
  prev : Option Nat
  regress : Bool
  lastStep : Option StepRecord
  params : ClockParams
  osc : Nat
deriving DecidableEq, Repr

/-! ## Key Table (chapter 3) -/

/-- The record of an occupied slot (R47). -/
structure Key where
  state : KeyState
  label : Label
  material : Material
  nb : Nat
  na : Nat
  a : Nat
  screens : ScreenMap
  c : Nat
  openings : Nat
  mark : Bool
  expiredAt : Option Nat
  revokedAt : Option Nat
deriving DecidableEq, Repr

/-! ## Lane Controller (chapter 4) -/

/-- The active reel (R74); `r` is its remaining time R. -/
structure ActiveReel where
  slot : Nat
  label : Label
  tag : ReelTag
  r : Nat
  serial : Nat
deriving DecidableEq, Repr

/-- The pending reel (R75). -/
structure PendingReel where
  slot : Nat
  label : Label
  d : Nat
  tie : Bool
  tag : ReelTag
deriving DecidableEq, Repr

/-- A lane of the Lane Controller (R73). `tickOwed` is the model's own: the lane has not yet taken its share of the last
tick (log 26). -/
structure Lane where
  state : LaneState
  active : Option ActiveReel
  pending : Option PendingReel
  screenHold : Bool
  siteHold : Bool
  holdTimer : Option Nat
  holdLimit : Option Nat
  wt : Nat
  l : Nat
  dt : Nat
  mark : Bool
  shows : Nat
  timeouts : Nat
  tickOwed : Bool
deriving DecidableEq, Repr

/-! ## Release Unit (chapter 6) -/

/-- An entry of the outstanding withdrawal list (R134); an absent countdown is cancelled. -/
structure Entry where
  serial : Nat
  slot : Nat
  countdown : Option Nat
deriving DecidableEq, Repr

/-- The Release Unit's items of one lane (6, "The Release Unit keeps four things"), and the clearing countdown (R148). -/
structure Release where
  nextSerial : Nat
  holdings : List Nat
  outstanding : List Entry
  clearRequired : Bool
  clearing : Option Nat
deriving DecidableEq, Repr

/-! ## Port Controller (chapter 7) -/

/-- A binding table entry (R166); an absent identity is ANY. -/
structure Binding where
  identity : Option Identity
  role : Role
  showControl : Bool
  queries : Bool
deriving DecidableEq, Repr

/-- A screen port's state (R167); the bound role is the role of its entry. -/
inductive PortState where
  | unbound
  | candidate (identity : Identity) (count spacing : Nat)
  | bound (identity : Identity)
deriving DecidableEq, Repr

/-- A receiver (R159); in assembling, the characters of the frame after its sync, in order. -/
inductive Receiver where
  | hunting
  | assembling (chars : List Byte)
deriving DecidableEq, Repr

/-! ## What the ports send (chapters 6 to 8, 10) -/

/-- An event with its subject and detail (R174). -/
inductive Event where
  | timeState (before after : TimeState) (cause : TimeCause)
  | timeStep (delta : Int) (excess : Bool)
  | referenceFailed (framer : FramerState)
  | referenceRestored (position : Nat)
  | referenceRegressed (w f : Nat)
  | alignmentChanged (before after : Nat)
  | broadcastChanged (bytes : List Byte)
  | keyState (slot : Nat) (before after : Option KeyState) (cause : KeyCause)
  | oversubscribed (slot : Nat) (lane : LaneIx) (holders : ScreenMap) (c : Nat)
  | laneQuarantined (lane : LaneIx) (cause : QuarantineCause) (holdings serials : List Nat)
  | laneCleared (lane : LaneIx) (slots : List Nat) (dropped : Nat)
  | portBound (port : LaneIx) (identity : Identity) (role : Role)
  | portUnbound (port : LaneIx) (cause : UnboundCause) (identity : Identity)
  | portDegraded (port : LaneIx) (sum dt : Nat)
  | portRecovered (port : LaneIx) (sum dt : Nat)
  | noticeLost (port : LaneIx) (kind : Byte)
  | backupLost
deriving DecidableEq, Repr

/-- The notices (R187). A RELEASE carries the material and the identity it is sealed to (R132); a BUFFER FREE of a
revocation states no serial (log 14); an EVENT carries the site time as the Event Unit took it (R174). -/
inductive Notice where
  | release (serial slot : Nat) (label : Label) (material : Material) (sealedTo : Identity) (tag : ReelTag) (d endBound : Nat)
  | withdraw (serial slot : Nat)
  | bufferFree (reason : FreeReason) (tag : ReelTag) (serial : Option Nat)
  | showEnded (tag : ReelTag) (serial : Nat) (reason : ShowReason) (r : Nat) (discarded : Option ReelTag) (t : Option Nat)
  | clear (countdown : Nat) (holdings serials : List Nat)
  | event (t : Option Nat) (e : Event)
deriving DecidableEq, Repr

/-- The check report of an opening check (R128); no refusal is PASS. -/
structure CheckReport where
  refusal : Option Answer
  continuation : Bool
  t : Option Nat
  u : Option Nat
  holders : Option Nat
  c : Option Nat
deriving DecidableEq, Repr

/-- A port state as a reply carries it (10.3): state, bound role and candidate count. -/
structure PortView where
  state : Nat
  role : Nat
  count : Nat
deriving DecidableEq, Repr

/-- The port part of a LANE STATUS reply (R172). -/
structure PortPart where
  fitted : Bool
  state : PortState
  entry : Binding
  lock : Bool
  degraded : Bool
  windowSum : Nat
  dtInForce : Nat
  softErrors : Nat
  noticesLost : Nat
  waiting : Nat
deriving DecidableEq, Repr

/-- The items of a LANE STATUS reply (R107, R154, R172). -/
structure LaneReport where
  state : LaneState
  active : Option ActiveReel
  pending : Option PendingReel
  screenHold : Bool
  siteHold : Bool
  holdTimer : Option Nat
  holdLimit : Option Nat
  siteLevel : Bool
  outstanding : List Entry
  holdings : List Nat
  clearing : Option Nat
  clearRequired : Bool
  mark : Bool
  wt : Nat
  l : Nat
  dt : Nat
  shows : Nat
  timeouts : Nat
  port : PortPart
deriving DecidableEq, Repr

/-- The items of a CLOCK STATUS reply (R43, R21). -/
structure ClockReport where
  time : TimeState
  t : Option Nat
  u : Option Nat
  uMs : Option Nat
  floor : Nat
  h : Option Nat
  miss : Nat
  lastStep : Option StepRecord
  regress : Bool
  params : ClockParams
  framer : FramerState
  alarm : Bool
  position : Option Nat
  source : Option Nat
  quality : Option Nat
  counters : FramerCounters
  captured : Option (List Byte)
deriving DecidableEq, Repr

/-- The items of a KEY STATUS reply for an occupied slot (R70). -/
structure KeyReport where
  state : KeyState
  label : Label
  nb : Nat
  na : Nat
  a : Nat
  screens : ScreenMap
  c : Nat
  openings : Nat
  mark : Bool
  expiredAt : Option Nat
  revokedAt : Option Nat
  holders : ScreenMap
deriving DecidableEq, Repr

/-- The items of a STATUS SUMMARY reply (R176). -/
structure StatusReport where
  sticky : BitVec 17
  mask : BitVec 17
  time : TimeState
  quarantined : ScreenMap
  degraded : ScreenMap
  markedKeys : List Nat
  markedLanes : ScreenMap
  softErrors : Nat
  noticesLost : Nat
  lamp : Lamp
deriving DecidableEq, Repr

/-- The replies (R171), each with the items its owner's rule gives. `plain` is a reply whose outcome stands alone,
`portRefusal` one the Port Controller refuses (R165), `laneRefused` a refused RESTORE LANE or VOID HOLDINGS (R146, R150). -/
inductive Reply where
  | plain (kind : Byte) (answer : Answer)
  | portRefusal (kind : Byte) (answer : Answer) (view : Option PortView)
  | announce (view : PortView)
  | queueReel (answer : Answer) (lane : LaneState) (serial : Nat) (replacedTag : ReelTag) (report : Option CheckReport)
  | stopShow (answer : Answer) (lane : LaneState)
  | holdShow (screen site : Bool) (timer : Option Nat) (lane : LaneState)
  | resumeShow (outcome : Recheck) (lane : LaneState) (t u : Option Nat)
  | erased (answer : Answer) (matched : Option GrantMatch) (lane : LaneState) (holdings : List Nat)
  | erasedAll (answer : Answer) (lane : LaneState) (released : Option (List Nat))
  | laneStatus (report : LaneReport)
  | clockStatus (report : ClockReport)
  | loadKey (slot : Nat) (screens : ScreenMap) (c : Nat) (state : KeyState)
  | revokeKey (before : KeyState) (revokedAt : Option Nat)
  | purgeHeld (holders : ScreenMap)
  | purgeKey (before : KeyState) (openings : Nat)
  | keyStatus (slot : Nat) (report : Option KeyReport)
  | setPort (entry : Binding) (view : PortView)
  | setPortRefused (answer : Answer) (view : PortView) (lane : LaneState)
  | setClockParameters (params : ClockParams) (time : TimeState)
  | setLaneParameters (taken : List (Nat × Nat × Nat))
  | seedTime (s : Nat) (time : TimeState)
  | reframe (state : FramerState)
  | restoreLane (holdings : List Nat) (countdown : Nat)
  | laneRefused (kind : Byte) (answer : Answer) (lane : LaneState) (view : PortView)
  | voidHoldings (slots serials : List Nat)
  | statusSummary (report : StatusReport)
  | clearSticky (sticky : BitVec 17) (markedKeys : List Nat) (markedLanes : ScreenMap)
  | setEventMask (mask : BitVec 17)
deriving DecidableEq, Repr

/-- A frame of a transmit list (R164); a reply carries its request's tag (R171). -/
inductive TxFrame where
  | reply (tag : Byte) (r : Reply)
  | notice (n : Notice)
deriving DecidableEq, Repr

/-- What every fitted port has (R159, R161, R163, R164). `tx` has the frame being sent first. -/
structure Link where
  receiver : Receiver
  buffer : Option (Byte × Request)
  tx : List TxFrame
  softErrors : Nat
  noticesLost : Nat
deriving DecidableEq, Repr

/-- A screen port (R162, R166, R167). `slices` has the current slice first. -/
structure ScreenPort where
  link : Link
  entry : Binding
  state : PortState
  slices : List Nat
  dtInForce : Nat
  degraded : Bool
deriving DecidableEq, Repr

/-! ## Supplies and start-up (chapter 9) -/

/-- The supplies, the reset, the validity marker, the fitted ports as last read from the straps, and the levels of the two
level-sensed pins. `backupLostOwed`: a bad marker was found and the main reset that reports it has not ended (R183). -/
structure Supply where
  mainOn : Bool
  inReset : Bool
  resetPin : Bool
  markerGood : Bool
  backupLostOwed : Bool
  fitted : Nat
  siteLine : Bool
deriving DecidableEq, Repr

/-- The whole part. `keys` lists the occupied slots, rising (R47); `siteHold` and `siteStableMs` are the level taken and the
stability measurement of the site hold line (R94); `kept` is the port whose reply place is kept inside the event in hand
(R163) and is none between two commands; `pending` is the command queue. -/
structure State where
  supply : Supply
  framer : Framer
  clock : Clock
  keys : List (Nat × Key)
  lanes : Vector Lane 16
  releases : Vector Release 16
  ports : Vector ScreenPort 16
  mgmt : Link
  policyLock : Bool
  siteHold : Bool
  siteStableMs : Nat
  mask : BitVec 17
  sticky : BitVec 17
  kept : Option PortId
  pending : List Instr
deriving DecidableEq, Repr

/-- The reasons for which a command stops the part: none. Every command of the table has an effect from every state, so no
meaning raises a fault, and the type is empty (safe: there is no stop a proof could lean on). -/
inductive Fault where
deriving DecidableEq, Repr

/-- The reasons for which a command has no meaning. -/
inductive Refusal where
  /-- Raised by exec alone, for a command whose meaning is not written; no arm raises it (safe: such a command stops). -/
  | notModelled (mnemonic : String)
deriving DecidableEq, Repr

/-! ## Reset values -/

/-- The clock parameters after backup loss (R41). -/
def ClockParams.defaults : ClockParams :=
  { r := 50, uc := 120, k := 3, e := 4, checkLoss := true, failTime := 10, strict := false }

/-- The Site Clock after backup loss (R46). -/
def Clock.cleared : Clock :=
  { time := .noTime, t := none, uMs := none, u0 := 0, acc := 0, h := none, floor := 0, miss := 0, prev := none,
    regress := false, lastStep := none, params := .defaults, osc := 0 }

/-- The framer after main reset, under the retained parameters (R22). The grid has seen no transition: DESIGN CHOICE, log 8. -/
def Framer.afterReset (p : ClockParams) : Framer :=
  { state := .search, history := List.replicate 128 .invalid, linePhase := 0, missingRun := 0, gridPhase := 0,
    startSeen := false, midSeen := false, nextStart := false, clean := 0, candidate := none, lastPosition := none,
    lossWindow := [], checkEnds := 0, checkFails := 0, kTaken := p.k, eTaken := p.e, checkLossTaken := p.checkLoss,
    awaiting := none, heldBytes := none, captured := none, lastSource := none, lastQuality := none, failTimer := 0,
    alarm := false, counters := ⟨0, 0, 0, 0, 0, 0⟩, fresh := false, tickOwed := false }

/-- A lane after main reset (R108). -/
def Lane.afterReset : Lane :=
  { state := .offline, active := none, pending := none, screenHold := false, siteHold := false, holdTimer := none,
    holdLimit := none, wt := 5, l := 1200, dt := 24, mark := false, shows := 0, timeouts := 0, tickOwed := false }

/-- The Release Unit's items of a lane after main reset: the holdings stay, and mark the lane for clearing (R152). -/
def Release.afterReset (r : Release) : Release :=
  { nextSerial := 1, holdings := r.holdings, outstanding := [], clearRequired := !r.holdings.isEmpty, clearing := none }

/-- The Release Unit's items of a lane that holds nothing, after main reset (R152, R153). -/
def Release.clear : Release :=
  { nextSerial := 1, holdings := [], outstanding := [], clearRequired := false, clearing := none }

/-- The receive and transmit side of a port after main reset (R173). -/
def Link.afterReset : Link :=
  { receiver := .hunting, buffer := none, tx := [], softErrors := 0, noticesLost := 0 }

/-- A screen port after main reset (R162, R166, R173). -/
def ScreenPort.afterReset : ScreenPort :=
  { link := .afterReset, entry := { identity := none, role := .disabled, showControl := false, queries := false },
    state := .unbound, slices := [0, 0, 0, 0, 0, 0, 0, 0], dtInForce := 24, degraded := false }

/-- Sixteen equal items, one for each screen index. -/
def sixteen {α : Type} (x : α) : Vector α 16 := #v[x, x, x, x, x, x, x, x, x, x, x, x, x, x, x, x]

/-- The supplies, pins and straps right after a main power-up (R181 to R185). Straps for sixteen ports and both pins at
rest: DESIGN CHOICE, log 20. -/
def Supply.afterPowerUp : Supply :=
  { mainOn := true, inReset := false, resetPin := false, markerGood := true, backupLostOwed := false, fitted := 16,
    siteLine := false }

/-- The part right after reset: a main power-up that found the validity marker bad (R182, R183), so that every retained
item has its value after backup loss and every other its value after main reset, and BACKUP LOST is the one frame waiting on
the management port (R180). -/
def State.reset : State :=
  { supply := .afterPowerUp,
    framer := .afterReset .defaults, clock := .cleared, keys := [], lanes := sixteen .afterReset,
    releases := sixteen .clear, ports := sixteen .afterReset,
    mgmt := { Link.afterReset with tx := [.notice (.event none .backupLost)] },
    policyLock := false, siteHold := false, siteStableMs := 0, mask := BitVec.allOnes 17,
    sticky := 0x10000#17, kept := none, pending := [] }

end Sys2Proof.Machine
end

