-- ==== Sys2Proof/Machine/Operands.lean ====
section
/-! DEFINITION. How the values of requests are taken: parameters clamped, record fields checked, lanes and ports named (00_scope.md, "Parameters and record fields"; R41, R52, R53, R105, R188). -/

namespace Sys2Proof.Machine

/-- A parameter taken into its range (00_scope.md, "Parameters and record fields"). -/
def clampTo (lo hi v : Nat) : Nat := max lo (min hi v)

/-- A counter's increment, which stops at 65,535 (00_scope.md, "Counters"). -/
def bump (n : Nat) : Nat := min Config.maxCount (n + 1)

/-- A slot is one of the 512 of the table (R47). -/
def slotInRange (slot : Nat) : Bool := decide (slot < 512)

/-- The lane a lane byte names, if it is 15 or less. -/
def laneOf (b : Byte) : Option LaneIx := if h : b.toNat < 16 then some ⟨b.toNat, h⟩ else none

/-- The role a role byte reads (R188). -/
def roleOf (b : Byte) : Option Role :=
  match b.toNat with
  | 0 => some .disabled
  | 1 => some .screen
  | 2 => some .observer
  | _ => none

/-- The code of a role (R188). -/
def Role.code : Role → Nat
  | .disabled => 0
  | .screen => 1
  | .observer => 2

/-- The classes byte holds no bit but show control and queries (R188). -/
def classesInRange (b : Byte) : Bool := decide (b.toNat < 4)

/-- The clock parameters as a SET CLOCK PARAMETERS leaves them: absent fields unchanged, numbers clamped, flags as given
(R41). -/
def ClockParams.taking (p : ClockParams) (r uc : Option Nat) (k e : Option Nat) (checkLoss : Option Bool) (failTime : Option Nat)
    (strict : Option Bool) : ClockParams :=
  { r := (r.map (clampTo 1 500)).getD p.r
    uc := (uc.map (clampTo 5 600)).getD p.uc
    k := (k.map (clampTo 2 4)).getD p.k
    e := (e.map (clampTo 2 16)).getD p.e
    checkLoss := checkLoss.getD p.checkLoss
    failTime := (failTime.map (clampTo 2 120)).getD p.failTime
    strict := strict.getD p.strict }

/-- The seed uncertainty taken, in seconds (R40). -/
def seedTaken (s : Nat) : Nat := clampTo 1 600 s

/-- The concurrency limit taken at LOAD KEY: above 16 it is 16 (R53). -/
def limitTaken (c : Nat) : Nat := min 16 c

/-- The map of the fitted screens, 0 to the count less one (R185). -/
def fittedMap (fitted : Nat) : ScreenMap := BitVec.ofNat 16 (2 ^ fitted - 1)

/-- A screen set with the unfitted screens dropped (R53). -/
def screensTaken (fitted : Nat) (screens : ScreenMap) : ScreenMap := screens &&& fittedMap fitted

/-- The lane parameters as a SET LANE PARAMETERS leaves them (R105). -/
def Lane.taking (lane : Lane) (wt l dt : Option Nat) : Lane :=
  { lane with
    wt := (wt.map (clampTo 2 30)).getD lane.wt
    l := (l.map (clampTo 0 3600)).getD lane.l
    dt := (dt.map (clampTo 1 255)).getD lane.dt }

/-- The number of fitted screen ports the two straps select (R185). -/
def fittedCount (fit1 fit0 : Bool) : Nat :=
  match fit1, fit0 with
  | false, false => 4
  | false, true => 8
  | true, false => 12
  | true, true => 16

/-- An identity matches an entry that expects it, or that expects ANY (R166). -/
def Binding.matches (e : Binding) (identity : Identity) : Bool :=
  match e.identity with
  | none => true
  | some expected => expected == identity

/-- A slot into a set of slots kept in ascending order without duplicates (R133). -/
def insertSlot (slot : Nat) : List Nat → List Nat
  | [] => [slot]
  | x :: xs => if slot < x then slot :: x :: xs else if slot = x then x :: xs else x :: insertSlot slot xs

end Sys2Proof.Machine
end

