-- ==== Sys2Proof/Machine/Flags.lean ====
section
/-! DEFINITION. The flags and figures computed from the rest of the state: the codes of event kinds and answers, U, window judgements, the lamp (R25, R36, R51, R174, R179, R189). -/

namespace Sys2Proof.Machine

/-! ## Events (R174, R188) -/

/-- The code of an event kind: its place in the table of R174, from 0. -/
def EventKind.code : EventKind → Nat
  | .timeState => 0
  | .timeStep => 1
  | .referenceFailed => 2
  | .referenceRestored => 3
  | .referenceRegressed => 4
  | .alignmentChanged => 5
  | .broadcastChanged => 6
  | .keyState => 7
  | .oversubscribed => 8
  | .laneQuarantined => 9
  | .laneCleared => 10
  | .portBound => 11
  | .portUnbound => 12
  | .portDegraded => 13
  | .portRecovered => 14
  | .noticeLost => 15
  | .backupLost => 16

/-- The kind of an event. -/
def Event.kind : Event → EventKind
  | .timeState .. => .timeState
  | .timeStep .. => .timeStep
  | .referenceFailed .. => .referenceFailed
  | .referenceRestored .. => .referenceRestored
  | .referenceRegressed .. => .referenceRegressed
  | .alignmentChanged .. => .alignmentChanged
  | .broadcastChanged .. => .broadcastChanged
  | .keyState .. => .keyState
  | .oversubscribed .. => .oversubscribed
  | .laneQuarantined .. => .laneQuarantined
  | .laneCleared .. => .laneCleared
  | .portBound .. => .portBound
  | .portUnbound .. => .portUnbound
  | .portDegraded .. => .portDegraded
  | .portRecovered .. => .portRecovered
  | .noticeLost .. => .noticeLost
  | .backupLost => .backupLost

/-- The one-bit map of an event kind. -/
def EventKind.bit (k : EventKind) : BitVec 17 := 1#17 <<< k.code

/-- The kinds a 24-bit kind map names, once its bits 17 to 23 are known to be clear (R188). -/
def kindsOf (m : KindMap) : BitVec 17 := m.setWidth 17

/-- A kind map names a position that is no kind (R188). -/
def namesNoKind (m : KindMap) : Bool := decide (2 ^ 17 ≤ m.toNat)

/-! ## Time (R36, R51) -/

/-- Milliseconds in whole seconds, rounded up (R36). -/
def ceilSeconds (ms : Nat) : Nat := (ms + 999) / 1000

/-- U, the uncertainty in whole seconds; 0 stands where it is absent. -/
def Clock.u (c : Clock) : Nat := ceilSeconds (c.uMs.getD 0)

/-- U as a reply carries it: absent in NO TIME (R43). -/
def Clock.uReported (c : Clock) : Option Nat := c.uMs.map ceilSeconds

/-- T; 0 stands where it is absent. -/
def Clock.now (c : Clock) : Nat := c.t.getD 0

/-- The time state is ASSURED or HOLDOVER (R56, R118). -/
def Clock.usable (c : Clock) : Bool := c.time == .assured || c.time == .holdover

/-- u_ms in a holdover: u0 and the growth rounded up to a millisecond, limited (R36). -/
def holdoverUMs (u0 acc : Nat) : Nat := min Config.maxUMs (u0 + (acc + 999) / 1000)

/-- The quality bound of a usable quality level, in milliseconds (R27). -/
def qualityBound (q : Nat) : Nat :=
  match q with
  | 0 => 0
  | 1 => 200
  | _ => 1500

/-- A signed difference of site times, clamped (R30). -/
def clampDelta (d : Int) : Int := max (-2147483647) (min 2147483647 d)

/-- The place of a state along WAITING, OPEN, CLOSING, EXPIRED (R48); REVOKED is apart and never judged. -/
def KeyState.rank : KeyState → Nat
  | .waiting => 0
  | .opened => 1
  | .closing => 2
  | .expired => 3
  | .revoked => 4

/-- The furthest state whose condition holds at T and U (R51, R57); none where none holds. -/
def Key.furthest (k : Key) (t u : Nat) : Option KeyState :=
  if k.na + k.a + u ≤ t then some .expired
  else if k.na ≤ t + u then some .closing
  else if k.nb + u ≤ t then some .opened
  else none

/-- The state an evaluation leaves a key in: EXPIRED and REVOKED are passed by, and no key moves back (R57). -/
def Key.judged (k : Key) (t u : Nat) : KeyState :=
  match k.state with
  | .expired => .expired
  | .revoked => .revoked
  | st =>
    match k.furthest t u with
    | none => st
    | some f => if st.rank < f.rank then f else st

/-! ## Lanes and ports -/

/-- The lane runs a show (R73). -/
def LaneState.running (s : LaneState) : Bool := s == .playing || s == .held

/-- The lane is IDLE, PLAYING or HELD, where its entries' countdowns run (R136). -/
def LaneState.inService (s : LaneState) : Bool := s == .idle || s.running

/-- The code of a port state (10.3). -/
def PortState.code : PortState → Nat
  | .unbound => 0
  | .candidate .. => 1
  | .bound _ => 2

/-- The port is BOUND. -/
def PortState.isBound : PortState → Bool
  | .bound _ => true
  | _ => false

/-- The port is BOUND in the SCREEN role (R150). -/
def ScreenPort.boundScreen (p : ScreenPort) : Bool := p.state.isBound && p.entry.role == .screen

/-- The port state as a reply carries it (10.3). -/
def ScreenPort.view (p : ScreenPort) : PortView :=
  { state := p.state.code
    role := match p.state with
      | .bound _ => p.entry.role.code
      | _ => 0
    count := match p.state with
      | .candidate _ count _ => count
      | _ => 0 }

/-- The map of the screen indices that satisfy a test (R188). -/
def laneMap (p : LaneIx → Bool) : ScreenMap :=
  allLanes.foldl (fun m n => if p n then m ||| (1#16 <<< n.val) else m) 0#16

/-- The part is at work: main power is present and no main reset is in progress (R181, R184). -/
def State.running (s : State) : Bool := s.supply.mainOn && !s.supply.inReset

/-- The Retained Domain's supply holds (R182): main is present, or the marker vouches for the backup supply. Log 18. -/
def State.retained (s : State) : Bool := s.supply.mainOn || s.supply.markerGood

/-- The pattern the lamp shows (R179). -/
def lamp (s : State) : Lamp :=
  if !s.running then .off
  else if s.clock.time == .noTime || s.clock.time == .unassured then .fast
  else if s.clock.time == .holdover || s.lanes.toList.any (fun l => l.state == .quarantine) then .slow
  else .steady

/-- The window sum of a screen port (R162). -/
def ScreenPort.windowSum (p : ScreenPort) : Nat := p.slices.sum

end Sys2Proof.Machine
end

