-- ==== Sys2Proof/Machine/Ops.lean ====
section
/-! DEFINITION. The named operations over the state that every block shares: reading and writing lanes, ports and slots; placing frames; taking events (R47, R67, R163, R164, R174). -/

namespace Sys2Proof.Machine

/-- What a command answers. -/
abbrev Answered := Host.Outcome State Fault Refusal

/-! ## Indexed state -/

/-- Lane n. -/
def State.lane (s : State) (n : LaneIx) : Lane := s.lanes.get n

/-- Lane n written. -/
def State.setLane (s : State) (n : LaneIx) (l : Lane) : State := { s with lanes := s.lanes.set n.val l n.isLt }

/-- The Release Unit's items of lane n. -/
def State.rel (s : State) (n : LaneIx) : Release := s.releases.get n

/-- The Release Unit's items of lane n written. -/
def State.setRel (s : State) (n : LaneIx) (r : Release) : State := { s with releases := s.releases.set n.val r n.isLt }

/-- Screen port n. -/
def State.port (s : State) (n : LaneIx) : ScreenPort := s.ports.get n

/-- Screen port n written. -/
def State.setPort (s : State) (n : LaneIx) (p : ScreenPort) : State := { s with ports := s.ports.set n.val p n.isLt }

/-- An operation on each lane in ascending order. Log 12. -/
def State.forLanes (s : State) (f : LaneIx → State → State) : State := allLanes.foldl (fun s n => f n s) s

/-- Screen port n is fitted (R185). -/
def State.isFitted (s : State) (n : LaneIx) : Bool := decide (n.val < s.supply.fitted)

/-- The receive and transmit side of a port. -/
def State.link (s : State) : PortId → Link
  | .mgmt => s.mgmt
  | .screen n => (s.port n).link

/-- The receive and transmit side of a port written. -/
def State.setLink (s : State) (p : PortId) (l : Link) : State :=
  match p with
  | .mgmt => { s with mgmt := l }
  | .screen n => s.setPort n { s.port n with link := l }

/-- The port receives and sends: the part is at work and the port is fitted; the management port always is (R158, R173). -/
def State.listening (s : State) : PortId → Bool
  | .mgmt => s.running
  | .screen n => s.running && s.isFitted n

/-! ## The Key Table's slots (R47)

The table is the list of its occupied slots, rising. -/

/-- The record in a slot of a table; none where the slot is EMPTY. -/
def lookupKey (slot : Nat) : List (Nat × Key) → Option Key
  | [] => none
  | (i, k) :: rest => if i = slot then some k else lookupKey slot rest

/-- A record written into a slot of a table, in its place. -/
def insertKey (slot : Nat) (key : Key) : List (Nat × Key) → List (Nat × Key)
  | [] => [(slot, key)]
  | (i, k) :: rest =>
    if slot < i then (slot, key) :: (i, k) :: rest
    else if slot = i then (slot, key) :: rest
    else (i, k) :: insertKey slot key rest

/-- A slot of a table made EMPTY. -/
def removeKey (slot : Nat) (table : List (Nat × Key)) : List (Nat × Key) := table.filter (fun e => e.1 != slot)

/-- The table's canonical form: occupied slots strictly rising, each one of the 512. -/
abbrev keysWf (table : List (Nat × Key)) : Prop :=
  table.Pairwise (fun a b => a.1 < b.1) ∧ ∀ e ∈ table, e.1 < 512

/-- The record in a slot; none where the slot is EMPTY. -/
def State.key (s : State) (slot : Nat) : Option Key := lookupKey slot s.keys

/-- A slot's record written. -/
def State.setKey (s : State) (slot : Nat) (k : Key) : State := { s with keys := insertKey slot k s.keys }

/-- An occupied slot's record changed; an EMPTY slot stays EMPTY. -/
def State.updateKey (s : State) (slot : Nat) (f : Key → Key) : State :=
  match s.key slot with
  | none => s
  | some k => s.setKey slot (f k)

/-! ## Holders (R67) -/

/-- Lane n's holdings contain the slot. -/
def State.holds (s : State) (n : LaneIx) (slot : Nat) : Bool := (s.rel n).holdings.contains slot

/-- The number of lanes whose holdings contain the slot, in every lane state. -/
def State.holderCount (s : State) (slot : Nat) : Nat := (allLanes.filter (fun n => s.holds n slot)).length

/-- The holder set of a slot. -/
def State.holderMap (s : State) (slot : Nat) : ScreenMap := laneMap (fun n => s.holds n slot)

/-! ## Placing frames (R163, R164) -/

/-- The kind of a notice (R187). -/
def Notice.kind : Notice → Byte
  | .release .. => 0x40
  | .withdraw .. => 0x41
  | .bufferFree .. => 0x42
  | .showEnded .. => 0x43
  | .clear .. => 0x44
  | .event .. => 0x45

/-- A notice finds a place on a port's list: a free one, and not the one kept for the reply of the event in hand (R163). -/
def State.hasRoom (s : State) (p : PortId) : Bool :=
  decide ((s.link p).tx.length + (if s.kept = some p then 1 else 0) < Config.txPlaces)

/-- A frame placed last on a port's transmit list. -/
def State.place (s : State) (p : PortId) (f : TxFrame) : State :=
  s.setLink p { s.link p with tx := (s.link p).tx ++ [f] }

/-- A port's notices lost counter counts one (R161). -/
def State.countLost (s : State) (p : PortId) : State :=
  s.setLink p { s.link p with noticesLost := bump (s.link p).noticesLost }

/-- An event kind's sticky flag set (R176). -/
def State.setSticky (s : State) (k : EventKind) : State := { s with sticky := s.sticky ||| k.bit }

/-- The Event Unit takes an event (R174): its kind's sticky flag is set, and where the mask enables the kind an EVENT notice
is placed on the management port. A notice that finds no place is lost, which the NOTICE LOST flag records alone (R164). While
the part is in reset or without main power the event is taken by nobody (R44, R60, R180). -/
def State.raise (s : State) (e : Event) : State :=
  if s.running then
    let s1 := s.setSticky e.kind
    if s1.mask.getLsbD e.kind.code then
      if s1.hasRoom .mgmt then s1.place .mgmt (.notice (.event s1.clock.t e))
      else (s1.countLost .mgmt).setSticky .noticeLost
    else s1
  else s

/-- A notice for screen port n (R164): placed last where there is room, otherwise discarded, counted and reported by NOTICE
LOST. For an unfitted port none is made. -/
def State.notify (s : State) (n : LaneIx) (x : Notice) : State :=
  if s.isFitted n then
    if s.hasRoom (.screen n) then s.place (.screen n) (.notice x)
    else (s.countLost (.screen n)).raise (.noticeLost n x.kind)
  else s

end Sys2Proof.Machine
end

