-- ==== Sys2Proof/Machine/Release.lean ====
section
/-! DEFINITION. The Release Unit: grants, holdings, withdrawals, quarantine, clearing (chapter 6), with the ends of shows that the Lane Controller makes through it (4.2). -/

namespace Sys2Proof.Machine

/-! ## Serials and grants (R130 to R132) -/

/-- The serial after another: 65,535 is followed by 1 (R130). -/
def nextSerialAfter (serial : Nat) : Nat := if 65535 ≤ serial then 1 else serial + 1

/-- The first serial from `serial` on that no outstanding entry carries, looking at `fuel` values (R130: at most four are
passed over). -/
def freeSerial (outstanding : List Entry) : Nat → Nat → Nat
  | 0, serial => serial
  | fuel + 1, serial =>
    if outstanding.any (fun e => e.serial == serial) then freeSerial outstanding fuel (nextSerialAfter serial) else serial

/-- The serial the next grant of a lane takes (R130). -/
def Release.takenSerial (r : Release) : Nat := freeSerial r.outstanding Config.outstandingPlaces r.nextSerial

/-- The identity with which a port is bound (R132); 0 stands where it is not bound, where no grant is issued. -/
def ScreenPort.boundIdentity (p : ScreenPort) : Identity :=
  match p.state with
  | .bound identity => identity
  | _ => 0

/-- A new grant on a slot to lane n (R131): a serial is taken, the slot enters the holdings, the openings count increments,
and RELEASE goes out. Answers the serial taken with the state. -/
def issueGrant (n : LaneIx) (slot : Nat) (tag : ReelTag) (d : Nat) (s : State) : State × Nat :=
  let serial := (s.rel n).takenSerial
  let s1 := s.setRel n { s.rel n with
    nextSerial := nextSerialAfter serial, holdings := insertSlot slot (s.rel n).holdings }
  match s.key slot with
  | none => (s1, serial)
  | some k =>
    let s2 := s1.setKey slot { k with openings := bump k.openings }
    (s2.notify n (.release serial slot k.label k.material (s.port n).boundIdentity tag d (k.na + k.a)), serial)

/-! ## The end of a show, without its cause (R76, R77) -/

/-- Lane n without reels, flags and hold timer, in a state without a show (R76, R77). -/
def dropShow (n : LaneIx) (state : LaneState) (s : State) : State :=
  s.setLane n { s.lane n with
    state := state, active := none, pending := none, screenHold := false, siteHold := false, holdTimer := none,
    holdLimit := none, tickOwed := false }

/-- SHOW ENDED on lane n's port, where it is bound, for a show that was the lane's before it ended (R78). -/
def reportShowEnd (n : LaneIx) (ended : Lane) (reason : ShowReason) (s : State) : State :=
  match ended.active with
  | none => s
  | some a =>
    if (s.port n).state.isBound then
      s.notify n (.showEnded a.tag a.serial reason a.r (ended.pending.map (fun p => p.tag)) s.clock.t)
    else s

/-! ## Quarantine (R101, R144) -/

/-- Every entry's countdown cancelled and any clearing countdown ended (R136, R144). -/
def cancelDeadlines (n : LaneIx) (s : State) : State :=
  s.setRel n { s.rel n with
    outstanding := (s.rel n).outstanding.map (fun e => { e with countdown := none }), clearing := none }

/-- The Release Unit's part of an entry into QUARANTINE: holdings, entries, mark and serial stay, countdowns are cancelled,
and LANE QUARANTINED goes out (R144). -/
def recordQuarantine (n : LaneIx) (cause : QuarantineCause) (s : State) : State :=
  let s1 := cancelDeadlines n s
  s1.raise (.laneQuarantined n cause (s1.rel n).holdings ((s1.rel n).outstanding.map (fun e => e.serial)))

/-- Lane n enters QUARANTINE (R101, R144): any show ends with reason QUARANTINE and its slot stays held. A lane already
there is not entered again. -/
def quarantine (n : LaneIx) (cause : QuarantineCause) (s : State) : State :=
  if (s.lane n).state = .quarantine then s
  else
    let s1 := dropShow n .quarantine s
    let s2 := if (s.lane n).state.running then reportShowEnd n (s.lane n) .quarantine s1 else s1
    recordQuarantine n cause s2

/-! ## Withdrawals (R77, R135) -/

/-- The outstanding list holds four entries (R135). -/
def Release.listFull (r : Release) : Bool := decide (Config.outstandingPlaces ≤ r.outstanding.length)

/-- The withdrawal of lane n's active grant where the list has a place: an entry with the lane's Wt joins the list and
WITHDRAW goes out; the slot stays in the holdings (R135). -/
def withdraw (n : LaneIx) (a : ActiveReel) (s : State) : State :=
  let entry : Entry := { serial := a.serial, slot := a.slot, countdown := some (s.lane n).wt }
  let s1 := s.setRel n { s.rel n with outstanding := (s.rel n).outstanding ++ [entry] }
  s1.notify n (.withdraw a.serial a.slot)

/-- Lane n's show ends with a withdrawal and a reason (R77): WITHDRAW, IDLE and SHOW ENDED where the list has a place,
QUARANTINE where it is full. `between` places what the same event sends after the WITHDRAW and before SHOW ENDED (R79). -/
def endShowWith (n : LaneIx) (reason : ShowReason) (between : State → State) (s : State) : State :=
  match (s.lane n).active with
  | none => s
  | some a =>
    if (s.rel n).listFull then quarantine n .listFull (between s)
    else reportShowEnd n (s.lane n) reason (dropShow n .idle (between (withdraw n a s)))

/-- Lane n's show ends with a withdrawal and a reason, and no other notice (R77). -/
def endShow (n : LaneIx) (reason : ShowReason) (s : State) : State := endShowWith n reason id s

/-- The screen-erased notice (R100): a show ends without a withdrawal, with reason SCREEN ERASED, and the lane is IDLE. -/
def screenErased (n : LaneIx) (s : State) : State :=
  if (s.lane n).state.running then reportShowEnd n (s.lane n) .screenErased (dropShow n .idle s) else s

/-! ## Timing out (R136, R137, R148) -/

/-- A countdown after one elapsed tick; a cancelled one stays cancelled (R136). -/
def countDown : Option Nat → Option Nat := Option.map (fun c => c - 1)

/-- The elapsed tick at lane n's countdowns: an entry's where the lane is IDLE, PLAYING or HELD, the clearing's in CLEARING
(R136, R148). -/
def countDownLane (n : LaneIx) (s : State) : State :=
  if (s.lane n).state.inService then
    s.setRel n { s.rel n with
      outstanding := (s.rel n).outstanding.map (fun e => { e with countdown := countDown e.countdown }) }
  else if (s.lane n).state = .clearing then
    s.setRel n { s.rel n with clearing := countDown (s.rel n).clearing }
  else s

/-- The entries of lane n whose countdown has reached 0. -/
def Release.timedOut (r : Release) : List Entry := r.outstanding.filter (fun e => e.countdown == some 0)

/-- The timing out of lane n's entries (R137): each counts one, and the lane enters QUARANTINE once. Nothing where no entry
of a lane in service has reached 0. -/
def timeOutWithdrawals (n : LaneIx) (s : State) : State :=
  let late := (s.rel n).timedOut.length
  if (s.lane n).state.inService && decide (0 < late) then
    let s1 := s.setLane n { s.lane n with timeouts := min Config.maxCount ((s.lane n).timeouts + late) }
    quarantine n .withdrawalTimeout s1
  else s

/-- The end of lane n's clearing countdown (R148): QUARANTINE, and the timeout counter stays. -/
def timeOutClearing (n : LaneIx) (s : State) : State :=
  if (s.lane n).state = .clearing ∧ (s.rel n).clearing = some 0 then quarantine n .clearingTimeout s else s

/-! ## Clearing (R146, R147, R151) -/

/-- A clearing of lane n starts: CLEAR goes to its port, the countdown starts at Wt, and the lane is CLEARING (R146, R151). -/
def startClearing (n : LaneIx) (s : State) : State :=
  let r := s.rel n
  let wt := (s.lane n).wt
  let s1 := s.notify n (.clear wt r.holdings (r.outstanding.map (fun e => e.serial)))
  let s2 := s1.setRel n { s1.rel n with clearing := some wt }
  s2.setLane n { s2.lane n with state := .clearing }

/-! ## The lane and its port's binding (R102 to R104) -/

/-- The lane bind notice (R102): an OFFLINE lane enters CLEARING where its mark is set and IDLE where it is clear; a lane in
QUARANTINE stays. -/
def laneBind (n : LaneIx) (s : State) : State :=
  if (s.lane n).state = .offline then
    if (s.rel n).clearRequired then startClearing n s else s.setLane n { s.lane n with state := .idle }
  else s

/-- The lane unbind notice (R103): OFFLINE, the mark set where holdings remain, deadlines cancelled and entries kept. -/
def laneUnbind (n : LaneIx) (s : State) : State :=
  let s1 := cancelDeadlines n (dropShow n .offline s)
  s1.setRel n { s1.rel n with clearRequired := (s1.rel n).clearRequired || !(s1.rel n).holdings.isEmpty }

/-- The identity change notice (R104): any show ends with no notice at all; a lane with holdings is in QUARANTINE, with
LANE QUARANTINED unless it was there already, and one without is OFFLINE. -/
def identityChange (n : LaneIx) (s : State) : State :=
  if (s.lane n).state = .quarantine then s
  else if (s.rel n).holdings.isEmpty then cancelDeadlines n (dropShow n .offline s)
  else recordQuarantine n .identityChange (dropShow n .quarantine s)

/-! ## The screen's confirmations (R138 to R143) -/

/-- Another outstanding entry, or the active grant, names the slot (R138). -/
def stillNamed (slot : Nat) (outstanding : List Entry) (active : Option ActiveReel) : Bool :=
  outstanding.any (fun e => e.slot == slot) || active.any (fun a => a.slot == slot)

/-- A slot out of a set of slots. -/
def removeSlot (slot : Nat) (slots : List Nat) : List Nat := slots.filter (fun x => x != slot)

/-- The holdings after an entry or the active grant that named `slot` is gone (R138, R139). -/
def holdingsWithout (slot : Nat) (holdings : List Nat) (outstanding : List Entry) (active : Option ActiveReel) : List Nat :=
  if stillNamed slot outstanding active then holdings else removeSlot slot holdings

/-- The reply to an ERASED, with the lane as it stands (R138 to R140). -/
def erasedReply (n : LaneIx) (answer : Answer) (matched : Option GrantMatch) (s : State) : Reply :=
  .erased answer matched (s.lane n).state (s.rel n).holdings

/-- ERASED of the outstanding grant of an entry (R138): the entry leaves, and in service so does its slot where nothing else
names it. -/
def eraseOutstanding (n : LaneIx) (e : Entry) (s : State) : State :=
  let rest := (s.rel n).outstanding.filter (fun x => x.serial != e.serial)
  let holdings :=
    if (s.lane n).state.inService then holdingsWithout e.slot (s.rel n).holdings rest (s.lane n).active
    else (s.rel n).holdings
  s.setRel n { s.rel n with outstanding := rest, holdings := holdings }

/-- ERASED of the active grant (R139): the show ends SCREEN ERASED and its slot leaves the holdings unless an entry names it. -/
def eraseActive (n : LaneIx) (a : ActiveReel) (s : State) : State :=
  let s1 := screenErased n s
  s1.setRel n { s1.rel n with
    holdings := holdingsWithout a.slot (s1.rel n).holdings (s1.rel n).outstanding none }

/-- The active grant a running lane has under a serial. -/
def Lane.activeUnder (l : Lane) (serial : Nat) : Option ActiveReel :=
  if l.state.running then l.active.filter (fun a => a.serial == serial) else none

/-- ERASED (serial) at lane n (R138 to R140). A serial of 0 matches nothing. -/
def erasedAt (n : LaneIx) (serial : Nat) (s : State) : State × Reply :=
  if serial = 0 then (s, erasedReply n .unknownGrant none s)
  else
    match (s.rel n).outstanding.find? (fun e => e.serial == serial) with
    | some e =>
      let s1 := eraseOutstanding n e s
      (s1, erasedReply n .accepted (some .outstanding) s1)
    | none =>
      match (s.lane n).activeUnder serial with
      | some a =>
        let s1 := eraseActive n a s
        (s1, erasedReply n .accepted (some .active) s1)
      | none => (s, erasedReply n .unknownGrant none s)

/-- ERASED ALL in CLEARING (R141): the list, the holdings and the mark are cleared, the lane is IDLE, LANE CLEARED goes out. -/
def completeClearing (n : LaneIx) (s : State) : State :=
  let r := s.rel n
  let s1 := s.setRel n { r with outstanding := [], holdings := [], clearRequired := false, clearing := none }
  let s2 := s1.setLane n { s1.lane n with state := .idle }
  s2.raise (.laneCleared n r.holdings r.outstanding.length)

/-- ERASED ALL in IDLE, PLAYING or HELD (R142): any show ends SCREEN ERASED, the list and the holdings are emptied. -/
def eraseEverything (n : LaneIx) (s : State) : State :=
  let s1 := screenErased n s
  s1.setRel n { s1.rel n with outstanding := [], holdings := [] }

/-- ERASED ALL at lane n (R141 to R143). In OFFLINE, where it is never delivered (6.4), it is answered as in QUARANTINE. -/
def erasedAllAt (n : LaneIx) (s : State) : State × Reply :=
  let released := (s.rel n).holdings
  match (s.lane n).state with
  | .clearing =>
    let s1 := completeClearing n s
    (s1, .erasedAll .accepted (s1.lane n).state (some released))
  | .idle | .playing | .held =>
    let s1 := eraseEverything n s
    (s1, .erasedAll .accepted (s1.lane n).state (some released))
  | .quarantine | .offline => (s, .erasedAll .wrongState (s.lane n).state none)

/-! ## Restore and void (R146, R150) -/

/-- RESTORE LANE and VOID HOLDINGS refused, with the lane state and the port state (R146, R150). -/
def refuseAtLane (kind : Byte) (n : LaneIx) (s : State) : Reply :=
  .laneRefused kind .wrongState (s.lane n).state (s.port n).view

/-- RESTORE LANE (R146). -/
def restoreLane (lane : Byte) (s : State) : State × Reply :=
  match laneOf lane with
  | none => (s, .plain (Request.restoreLane lane).kind .badField)
  | some n =>
    if (s.lane n).state = .quarantine ∧ (s.port n).boundScreen = true then
      (startClearing n s, .restoreLane (s.rel n).holdings (s.lane n).wt)
    else (s, refuseAtLane (Request.restoreLane lane).kind n s)

/-- VOID HOLDINGS is taken in QUARANTINE, CLEARING and OFFLINE (R150). -/
def LaneState.voidable : LaneState → Bool
  | .quarantine | .clearing | .offline => true
  | .idle | .playing | .held => false

/-- The write-off of lane n's holdings (R150). -/
def writeOff (n : LaneIx) (s : State) : State :=
  let s1 := s.setRel n { s.rel n with outstanding := [], holdings := [], clearRequired := false, clearing := none }
  s1.setLane n { s1.lane n with state := .offline }

/-- VOID HOLDINGS (R150). -/
def voidHoldings (lane : Byte) (s : State) : State × Reply :=
  match laneOf lane with
  | none => (s, .plain (Request.voidHoldings lane).kind .badField)
  | some n =>
    if (s.lane n).state.voidable = true ∧ (s.port n).boundScreen = false then
      (writeOff n s, .voidHoldings (s.rel n).holdings ((s.rel n).outstanding.map (fun e => e.serial)))
    else (s, refuseAtLane (Request.voidHoldings lane).kind n s)

end Sys2Proof.Machine
end

