-- ==== Sys2Proof/Machine/Checks.lean ====
section
/-! DEFINITION. The opening check and the end-bound re-check (chapter 5). -/

namespace Sys2Proof.Machine

/-! ## The opening check (R109 to R125) -/

/-- A check that ended before step 5: it read neither T nor U, nor the holders (R128). -/
def earlyReport (continuation : Bool) (reason : Answer) : CheckReport :=
  { refusal := some reason, continuation := continuation, t := none, u := none, holders := none, c := none }

/-- A check that ended from step 5 to step 8, or a continuation that passed: T and U as read (R128). -/
def timedReport (continuation : Bool) (c : Clock) (refusal : Option Answer) : CheckReport :=
  { refusal := refusal, continuation := continuation, t := c.t, u := c.uReported, holders := none, c := none }

/-- Steps 5 to 8: the time state and the window, with the step a continuation skips (R118 to R121). None refuses nothing. -/
def windowRefusal (continuation : Bool) (c : Clock) (k : Key) (d : Nat) : Option Answer :=
  if !c.usable then some .timeUnassured
  else if c.now < k.nb + c.u then some .notYet
  else if !continuation && decide (k.na ≤ c.now + c.u) then some .tooLate
  else if k.na + k.a < c.now + c.u + d then some .runsPast
  else none

/-- Step 9: the lane is a holder, or the holder count is below C (R122). -/
def hasPlace (n : LaneIx) (slot : Nat) (k : Key) (s : State) : Bool := s.holds n slot || decide (s.holderCount slot < k.c)

/-- Steps 2 to 4: the key, its label, its state and the screen's authorisation (R114, R115, R117). -/
def keyRefusal (n : LaneIx) (k : Key) (label : Label) : Option Answer :=
  if k.label ≠ label then some .keyChanged
  else if k.state = .revoked then some .revoked
  else if k.state = .expired then some .expired
  else if k.screens.getLsbD n.val = false then some .notAuthorized
  else none

/-- The opening check of lane n for a slot, the label given and a duration, in one of its two variants: the steps of R112 in
order, the first that refuses giving the outcome (R109, R112, R128). -/
def openingCheck (continuation : Bool) (n : LaneIx) (slot : Nat) (label : Label) (d : Nat) (s : State) : CheckReport :=
  if !continuation && (s.port n).degraded then earlyReport continuation .linkDegraded
  else
    match s.key slot with
    | none => earlyReport continuation .noKey
    | some k =>
      match keyRefusal n k label with
      | some reason => earlyReport continuation reason
      | none =>
        match windowRefusal continuation s.clock k d with
        | some reason => timedReport continuation s.clock (some reason)
        | none =>
          if continuation then timedReport continuation s.clock none
          else
            { timedReport continuation s.clock (if hasPlace n slot k s then none else some .oversubscribed) with
              holders := some (s.holderCount slot), c := some k.c }

/-- The effects of an OVERSUBSCRIBED refusal (R123): the key's mark, the lane's mark, one event. -/
def noteOversubscribed (n : LaneIx) (slot : Nat) (s : State) : State :=
  match s.key slot with
  | none => s
  | some k =>
    let s1 := s.setKey slot { k with mark := true }
    let s2 := s1.setLane n { s1.lane n with mark := true }
    s2.raise (.oversubscribed slot n (s.holderMap slot) k.c)

/-- The effects a check's outcome has of itself: those of OVERSUBSCRIBED, and none of any other (R109). -/
def noteCheck (n : LaneIx) (slot : Nat) (report : CheckReport) (s : State) : State :=
  if report.refusal = some .oversubscribed then noteOversubscribed n slot s else s

/-! ## The end-bound re-check (R126, R127) -/

/-- The end-bound re-check of an active reel, steps a to d; none is PASS. -/
def recheck (a : ActiveReel) (s : State) : Option Answer :=
  match s.key a.slot with
  | none => some .keyChanged
  | some k =>
    if k.label ≠ a.label then some .keyChanged
    else if k.state = .revoked then some .revoked
    else if k.state = .expired then some .expired
    else if !s.clock.usable then some .timeUnassured
    else if k.na + k.a < s.clock.now + s.clock.u + a.r then some .runsPast
    else none

/-- The re-check reached step c, where it reads T and U (R128). -/
def recheckReadsTime (a : ActiveReel) (s : State) : Bool :=
  match s.key a.slot with
  | none => false
  | some k => k.label == a.label && k.state != .revoked && k.state != .expired

end Sys2Proof.Machine
end

