-- ==== Sys2Proof/Machine/Lanes.lean ====
section
/-! DEFINITION. The Lane Controller: queueing, boundaries, stops and holds, the site hold line, reactions to time and key notices (chapter 4). -/

namespace Sys2Proof.Machine

/-! ## Holds (R76, R91, R93, R97) -/

/-- Lane n enters HELD with its flags, the timer at 0 and the hold limit taken from L; a hold limit of 0 ends the show in the
same event (R76, R91, R97). -/
def enterHeld (n : LaneIx) (screen site : Bool) (s : State) : State :=
  let l := s.lane n
  let s1 := s.setLane n { l with
    state := .held, screenHold := screen, siteHold := site, holdTimer := some 0, holdLimit := some l.l }
  if l.l = 0 then endShow n .holdLimit s1 else s1

/-- Lane n's last hold flag has been cleared: the end-bound re-check resumes the show or ends it (R93). -/
def releaseLastHold (n : LaneIx) (s : State) : State :=
  match (s.lane n).active with
  | none => s
  | some a =>
    match recheck a s with
    | none => s.setLane n { s.lane n with state := .playing, holdTimer := none, holdLimit := none }
    | some reason => endShow n (.refused reason) s

/-! ## The boundary (R85 to R88) -/

/-- A pending reel continues the active grant: tied, on the same slot under the same label (R85). -/
def continues (p : PendingReel) (a : ActiveReel) : Bool := p.tie && p.slot == a.slot && p.label == a.label

/-- A boundary with no pending reel: COMPLETE, counted where the lane enters IDLE (R86). -/
def completeShow (n : LaneIx) (s : State) : State :=
  let s1 := endShow n .complete s
  if (s1.lane n).state = .idle then s1.setLane n { s1.lane n with shows := bump (s1.lane n).shows } else s1

/-- A continuation boundary (R87). -/
def continuationBoundary (n : LaneIx) (a : ActiveReel) (p : PendingReel) (s : State) : State :=
  match (openingCheck true n a.slot p.label p.d s).refusal with
  | some reason => endShow n (.refused reason) s
  | none =>
    let s1 := s.setLane n { s.lane n with active := some { a with tag := p.tag, r := p.d }, pending := none }
    s1.notify n (.bufferFree .loaded p.tag (some a.serial))

/-- The change of grant at a boundary whose check has passed and whose list has a place: the old grant is withdrawn, the new
one issued and loaded (R88, R79). -/
def changeGrant (n : LaneIx) (a : ActiveReel) (p : PendingReel) (s : State) : State :=
  let (s1, serial) := issueGrant n p.slot p.tag p.d (withdraw n a s)
  let s2 := s1.setLane n { s1.lane n with
    active := some { slot := p.slot, label := p.label, tag := p.tag, r := p.d, serial := serial }, pending := none }
  s2.notify n (.bufferFree .loaded p.tag (some serial))

/-- A new-grant boundary (R88). An OVERSUBSCRIBED event goes out before the notices of the end of the show: DESIGN CHOICE, log 29. -/
def newGrantBoundary (n : LaneIx) (a : ActiveReel) (p : PendingReel) (s : State) : State :=
  let report := openingCheck false n p.slot p.label p.d s
  let s1 := noteCheck n p.slot report s
  match report.refusal with
  | some reason => endShow n (.refused reason) s1
  | none => if (s1.rel n).listFull then quarantine n .listFull s1 else changeGrant n a p s1

/-- Lane n's boundary, R being 0: it classifies its pending reel (R85). -/
def reachBoundary (n : LaneIx) (a : ActiveReel) (s : State) : State :=
  match (s.lane n).pending with
  | none => completeShow n s
  | some p => if continues p a then continuationBoundary n a p s else newGrantBoundary n a p s

/-! ## The elapsed tick at a lane (R84, R97) -/

/-- Lane n takes an elapsed tick: in PLAYING R decrements and the boundary follows at 0, in HELD the timer advances and the
show ends at the hold limit taken. -/
def laneTick (n : LaneIx) (s : State) : State :=
  let l := { s.lane n with tickOwed := false }
  match l.state, l.active, l.holdTimer, l.holdLimit with
  | .playing, some a, _, _ =>
    let a1 := { a with r := a.r - 1 }
    let s1 := s.setLane n { l with active := some a1 }
    if a1.r = 0 then reachBoundary n a1 s1 else s1
  | .held, some _, some timer, some limit =>
    let s1 := s.setLane n { l with holdTimer := some (timer + 1) }
    if limit ≤ timer + 1 then endShow n .holdLimit s1 else s1
  | _, _, _, _ => s.setLane n l

/-- Lane n's next tick is its boundary: PLAYING with one second left (R84). -/
def Lane.atBoundary (l : Lane) : Bool := l.state == .playing && l.active.any (fun a => decide (a.r ≤ 1))

/-- Lane n's next tick brings its hold timer to the limit taken (R97). -/
def Lane.atHoldLimit (l : Lane) : Bool :=
  l.state == .held &&
    match l.holdTimer, l.holdLimit with
    | some timer, some limit => decide (limit ≤ timer + 1)
    | _, _ => false

/-! ## Notices from the clock and the Key Table (R63, R98, R99) -/

/-- The expiry notice at lane n (R99). -/
def expireAt (slot : Nat) (n : LaneIx) (s : State) : State :=
  if (s.lane n).state.running && (s.lane n).active.any (fun a => a.slot == slot) then endShow n (.refused .expired) s else s

/-- The expiry notice of a slot to every lane (R58, R99). -/
def expiryNotice (slot : Nat) (s : State) : State := s.forLanes (expireAt slot)

/-- The revocation notice at lane n (R63): a pending reel that names the slot is discarded with BUFFER FREE, and a show whose
active grant is on it ends REVOKED. -/
def revokeAt (slot : Nat) (n : LaneIx) (s : State) : State :=
  if (s.lane n).state.running then
    let hit := (s.lane n).pending.filter (fun p => p.slot == slot)
    let s1 := if hit.isSome then s.setLane n { s.lane n with pending := none } else s
    let freed (t : State) : State :=
      match hit with
      | none => t
      | some p => t.notify n (.bufferFree .revoked p.tag none)
    if (s.lane n).active.any (fun a => a.slot == slot) then endShowWith n (.refused .revoked) freed s1 else freed s1
  else s

/-- The revocation notice of a slot to every lane (R63). -/
def revocationNotice (slot : Nat) (s : State) : State := s.forLanes (revokeAt slot)

/-- The step notice at lane n (R98): a running lane re-checks its active reel. -/
def recheckAt (n : LaneIx) (s : State) : State :=
  match (s.lane n).state.running, (s.lane n).active with
  | true, some a =>
    match recheck a s with
    | none => s
    | some reason => endShow n (.refused reason) s
  | _, _ => s

/-- The step notice to every lane (R98). -/
def stepNotice (s : State) : State := s.forLanes recheckAt

/-! ## QUEUE REEL (R80 to R82) -/

/-- The reply to a QUEUE REEL with the lane as it stands. A start that L = 0 ends over a full list reads QUARANTINE: DEDUCED, log 34. -/
def queueReply (n : LaneIx) (answer : Answer) (serial : Nat) (replacedTag : ReelTag) (report : Option CheckReport) (s : State) :
    Reply := .queueReel answer (s.lane n).state serial replacedTag report

/-- QUEUE REEL in IDLE: a new start (R81). -/
def newStart (n : LaneIx) (slot : Nat) (label : Label) (d : Nat) (tag : ReelTag) (s : State) : State × Reply :=
  let report := openingCheck false n slot label d s
  match report.refusal with
  | some reason =>
    let s1 := noteCheck n slot report s
    (s1, queueReply n reason 0 0 (some report) s1)
  | none =>
    let (s1, serial) := issueGrant n slot tag d s
    let s2 := s1.setLane n { s1.lane n with
      state := .playing, active := some { slot := slot, label := label, tag := tag, r := d, serial := serial } }
    let s3 := if s2.siteHold then enterHeld n false true s2 else s2
    (s3, queueReply n .accepted serial 0 (some report) s3)

/-- The static checks of a QUEUE REEL in PLAYING or HELD; none passes (R82). -/
def staticRefusal (n : LaneIx) (slot : Nat) (label : Label) (s : State) : Option Answer :=
  match s.key slot with
  | none => some .noKey
  | some k => keyRefusal n k label

/-- QUEUE REEL in PLAYING or HELD: the reel is kept as the pending reel (R82). -/
def storePending (n : LaneIx) (p : PendingReel) (s : State) : State × Reply :=
  match staticRefusal n p.slot p.label s with
  | some reason => (s, queueReply n reason 0 0 none s)
  | none =>
    let s1 := s.setLane n { s.lane n with pending := some p }
    match (s.lane n).pending with
    | none => (s1, queueReply n .accepted 0 0 none s1)
    | some old => (s1, queueReply n .replaced 0 old.tag none s1)

/-- QUEUE REEL at lane n (R80). -/
def queueReel (n : LaneIx) (slot : Nat) (label : Label) (d : Nat) (tie : Bool) (tag : ReelTag) (s : State) : State × Reply :=
  if !slotInRange slot then (s, queueReply n .badField 0 0 none s)
  else if d < 1 ∨ 14400 < d then (s, queueReply n .badField 0 0 none s)
  else
    match (s.lane n).state with
    | .idle => newStart n slot label d tag s
    | .playing | .held => storePending n { slot := slot, label := label, d := d, tie := tie, tag := tag } s
    | .offline | .clearing | .quarantine => (s, queueReply n .laneUnavailable 0 0 none s)

/-! ## STOP, HOLD and RESUME SHOW (R90 to R92) -/

/-- STOP SHOW at lane n (R90). -/
def stopShow (n : LaneIx) (s : State) : State × Reply :=
  if (s.lane n).state.running then
    let s1 := endShow n .stopped s
    (s1, .stopShow .accepted (s1.lane n).state)
  else (s, .stopShow .wrongState (s.lane n).state)

/-- The reply to an accepted HOLD SHOW (R91), with the lane as the event leaves it. Where L = 0 has ended the show both flags are so
clear and the timer absent: DESIGN CHOICE, log 33; and the lane state is QUARANTINE where the list was full: DEDUCED, log 34. -/
def holdReply (n : LaneIx) (s : State) : Reply :=
  .holdShow (s.lane n).screenHold (s.lane n).siteHold (s.lane n).holdTimer (s.lane n).state

/-- HOLD SHOW at lane n (R91). -/
def holdShow (n : LaneIx) (s : State) : State × Reply :=
  match (s.lane n).state with
  | .playing =>
    let s1 := enterHeld n true false s
    (s1, holdReply n s1)
  | .held =>
    let s1 := s.setLane n { s.lane n with screenHold := true }
    (s1, holdReply n s1)
  | .offline | .clearing | .idle | .quarantine => (s, .plain Request.holdShow.kind .wrongState)

/-- The outcome and the time read by the re-check of a resume (R92, R128). -/
def resumeReply (n : LaneIx) (a : ActiveReel) (before after : State) : Reply :=
  let read := recheckReadsTime a before
  .resumeShow (.ran (recheck a before)) (after.lane n).state (if read then before.clock.t else none)
    (if read then before.clock.uReported else none)

/-- RESUME SHOW at lane n (R92). -/
def resumeShow (n : LaneIx) (s : State) : State × Reply :=
  if (s.lane n).state = .held ∧ (s.lane n).screenHold = true then
    let s1 := s.setLane n { s.lane n with screenHold := false }
    match (s.lane n).siteHold, (s.lane n).active with
    | false, some a =>
      let s2 := releaseLastHold n s1
      (s2, resumeReply n a s1 s2)
    | _, _ => (s1, .resumeShow .notRun (s1.lane n).state none none)
  else (s, .plain Request.resumeShow.kind .wrongState)

/-! ## The site hold line (R94 to R96) -/

/-- An assertion at lane n (R95). -/
def assertAt (n : LaneIx) (s : State) : State :=
  match (s.lane n).state with
  | .playing => enterHeld n false true s
  | .held => s.setLane n { s.lane n with siteHold := true }
  | .offline | .clearing | .idle | .quarantine => s

/-- A release at lane n: its site flag clears, and a HELD lane left with no flag releases its last hold (R96). -/
def releaseAt (n : LaneIx) (s : State) : State :=
  let l := s.lane n
  let s1 := s.setLane n { l with siteHold := false }
  if l.state = .held ∧ l.siteHold = true ∧ l.screenHold = false then releaseLastHold n s1 else s1

/-- The hold line has held its level for `ms` further milliseconds: the stability measurement advances (R94, log 22). -/
def measureHold (ms : Nat) (s : State) : State :=
  { s with siteStableMs := min Config.siteHoldMs (s.siteStableMs + ms) }

/-- The measured level is stable and differs from the level taken (R94). -/
def holdSettled (s : State) : Bool := decide (Config.siteHoldMs ≤ s.siteStableMs) && s.supply.siteLine != s.siteHold

/-- A change of the hold line's level, which restarts the measurement (R94). A level equal to the line's is no change. -/
def changeHoldLine (asserted : Bool) (s : State) : State :=
  if s.supply.siteLine = asserted then s
  else { s with supply := { s.supply with siteLine := asserted }, siteStableMs := 0 }

/-- The asserted level, held stable, is taken (R94, R95). -/
def takeAssertion (ms : Nat) (s : State) : State :=
  if s.running then
    let s1 := measureHold ms s
    if holdSettled s1 && s1.supply.siteLine then ({ s1 with siteHold := true }).forLanes assertAt else s1
  else s

/-- The released level, held stable, is taken (R94, R96). -/
def takeRelease (ms : Nat) (s : State) : State :=
  if s.running then
    let s1 := measureHold ms s
    if holdSettled s1 && !s1.supply.siteLine then ({ s1 with siteHold := false }).forLanes releaseAt else s1
  else s

/-! ## SET LANE PARAMETERS and LANE STATUS (R105, R107, R172) -/

/-- The lanes a SET LANE PARAMETERS names: one fitted lane, or every fitted one for ALL (R105). -/
def lanesNamed (lane : Byte) (s : State) : Option (List LaneIx) :=
  if lane = 0xFF then some (allLanes.filter (fun n => s.isFitted n))
  else
    match laneOf lane with
    | none => none
    | some n => if s.isFitted n then some [n] else none

/-- SET LANE PARAMETERS (R105). The reply to ALL has the values of the lanes in ascending order, without their numbers: DESIGN
CHOICE, log 30. -/
def setLaneParameters (lane : Byte) (wt l dt : Option Nat) (s : State) : State × Reply :=
  match lanesNamed lane s with
  | none => (s, .plain (Request.setLaneParameters lane none none none).kind .badField)
  | some named =>
    let s1 := named.foldl (fun s n => s.setLane n ((s.lane n).taking wt l dt)) s
    (s1, .setLaneParameters (named.map (fun n => ((s1.lane n).wt, (s1.lane n).l, (s1.lane n).dt))))

/-- The port part of lane n's status; an unfitted port reports its values after main reset (R172). -/
def portPart (n : LaneIx) (s : State) : PortPart :=
  let p := if s.isFitted n then s.port n else .afterReset
  { fitted := s.isFitted n, state := p.state, entry := p.entry, lock := s.isFitted n && s.policyLock, degraded := p.degraded,
    windowSum := p.windowSum, dtInForce := p.dtInForce, softErrors := p.link.softErrors, noticesLost := p.link.noticesLost,
    waiting := p.link.tx.length }

/-- Lane n as LANE STATUS reports it (R107, R154, R172). -/
def laneReport (n : LaneIx) (s : State) : LaneReport :=
  let l := s.lane n
  let r := s.rel n
  { state := l.state, active := l.active, pending := l.pending, screenHold := l.screenHold, siteHold := l.siteHold,
    holdTimer := l.holdTimer, holdLimit := l.holdLimit, siteLevel := s.siteHold, outstanding := r.outstanding,
    holdings := r.holdings, clearing := r.clearing, clearRequired := r.clearRequired, mark := l.mark, wt := l.wt, l := l.l,
    dt := l.dt, shows := l.shows, timeouts := l.timeouts, port := portPart n s }

/-- LANE STATUS (R107): any lane on the management port, its own lane on a screen port. A lane above 15 is BAD FIELD on
either: DESIGN CHOICE, log 17. -/
def laneStatus (p : PortId) (lane : Byte) (s : State) : State × Reply :=
  match laneOf lane with
  | none => (s, .plain (Request.laneStatus lane).kind .badField)
  | some n =>
    if p = .mgmt ∨ p = .screen n then (s, .laneStatus (laneReport n s))
    else (s, .plain (Request.laneStatus lane).kind .notPermitted)

end Sys2Proof.Machine
end

