-- ==== Sys2Proof/Machine/Events.lean ====
section
/-! DEFINITION. The Event Unit's requests: SET EVENT MASK, STATUS SUMMARY, CLEAR STICKY, CLEAR COUNTERS (chapter 8). -/

namespace Sys2Proof.Machine

/-! ## SET EVENT MASK (R175) -/

/-- SET EVENT MASK (R175). -/
def setEventMask (kinds : KindMap) (kind : Byte) (s : State) : State × Reply :=
  if namesNoKind kinds then (s, .plain kind .badField)
  else ({ s with mask := kindsOf kinds }, .setEventMask (kindsOf kinds))

/-! ## STATUS SUMMARY (R176) -/

/-- The slots whose oversubscribed mark is set, in ascending order (R176). -/
def markedKeys (s : State) : List Nat := (s.keys.filter (fun e => e.2.mark)).map Prod.fst

/-- The lanes whose oversubscribed mark is set (R176). -/
def markedLanes (s : State) : ScreenMap := laneMap (fun n => (s.lane n).mark)

/-- The items of STATUS SUMMARY, as they stand (R176). -/
def statusReport (s : State) : StatusReport :=
  { sticky := s.sticky, mask := s.mask, time := s.clock.time,
    quarantined := laneMap (fun n => (s.lane n).state == .quarantine), degraded := laneMap (fun n => (s.port n).degraded),
    markedKeys := markedKeys s, markedLanes := markedLanes s, softErrors := s.mgmt.softErrors,
    noticesLost := s.mgmt.noticesLost, lamp := lamp s }

/-- STATUS SUMMARY (R176). -/
def statusSummary (s : State) : State × Reply := (s, .statusSummary (statusReport s))

/-! ## CLEAR STICKY (R177) -/

/-- An occupied slot's oversubscribed mark cleared; an EMPTY slot is passed over (R177). -/
def clearKeyMark (s : State) (slot : Nat) : State := s.updateKey slot (fun k => { k with mark := false })

/-- Lane n's oversubscribed mark cleared, where the map names the lane (R177). -/
def clearLaneMark (named : ScreenMap) (n : LaneIx) (s : State) : State :=
  if named.getLsbD n.val then s.setLane n { s.lane n with mark := false } else s

/-- The sticky flags, marked keys and marked lanes as they stand, for the reply to CLEAR STICKY (R177). -/
def stickyReply (s : State) : Reply := .clearSticky s.sticky (markedKeys s) (markedLanes s)

/-- A CLEAR STICKY that names no kind's bit above 16 and no slot above 511, taken whole (R177). -/
def clearNamed (kinds : BitVec 17) (lanes : ScreenMap) (slots : List Nat) (s : State) : State :=
  (slots.foldl clearKeyMark { s with sticky := s.sticky &&& ~~~kinds }).forLanes (clearLaneMark lanes)

/-- CLEAR STICKY (R177). A lane map of sixteen bits names no lane above 15. -/
def clearSticky (kinds : KindMap) (lanes : ScreenMap) (slots : List Nat) (kind : Byte) (s : State) : State × Reply :=
  if namesNoKind kinds || slots.any (fun slot => !slotInRange slot) then (s, .plain kind .badField)
  else
    let s1 := clearNamed (kindsOf kinds) lanes slots s
    (s1, stickyReply s1)

/-! ## CLEAR COUNTERS (R178) -/

/-- A port's two counters at 0. -/
def Link.zeroed (l : Link) : Link := { l with softErrors := 0, noticesLost := 0 }

/-- A lane's two counters at 0. -/
def Lane.zeroed (l : Lane) : Lane := { l with shows := 0, timeouts := 0 }

/-- The counters that CLEAR COUNTERS names, all at 0 (R178). -/
def zeroCounters (s : State) : State :=
  { s with
    framer := { s.framer with counters := ⟨0, 0, 0, 0, 0, 0⟩ }
    ports := s.ports.map (fun p => { p with link := p.link.zeroed })
    mgmt := s.mgmt.zeroed
    lanes := s.lanes.map Lane.zeroed }

/-- CLEAR COUNTERS (R178). -/
def clearCounters (kind : Byte) (s : State) : State × Reply := (zeroCounters s, .plain kind .accepted)

end Sys2Proof.Machine
end

