-- ==== Sys2Proof/Machine/Keys.lean ====
section
/-! DEFINITION. The Key Table: window evaluation, LOAD KEY, REVOKE KEY, PURGE KEY, KEY STATUS (chapter 3). -/

namespace Sys2Proof.Machine

/-! ## Window evaluation (R56 to R58) -/

/-- A key moved to a state at site time T: one that enters EXPIRED records it (R58). -/
def Key.moved (k : Key) (state : KeyState) (t : Nat) : Key :=
  { k with state := state, expiredAt := if state = .expired then some t else k.expiredAt }

/-- One slot's share of an evaluation: a key that moves sends KEY STATE with cause WINDOW, and one that enters EXPIRED sends
the lanes an expiry notice, which reaches nobody while they are not at work (R57, R58, R60). The lanes act on it before the next
slot's KEY STATE: DESIGN CHOICE, log 29. -/
def evaluateSlot (slot : Nat) (s : State) : State :=
  match s.key slot with
  | none => s
  | some k =>
    let state := k.judged s.clock.now s.clock.u
    if state = k.state then s
    else
      let s1 := s.setKey slot (k.moved state s.clock.now)
      let s2 := s1.raise (.keyState slot (some k.state) (some state) .window)
      if state = .expired ∧ s2.running = true then expiryNotice slot s2 else s2

/-- A window evaluation of all slots in ascending order, gated by the time state (R56, R58). -/
def evaluate (s : State) : State :=
  if s.clock.usable then (s.keys.map Prod.fst).foldl (fun s slot => evaluateSlot slot s) s else s

/-! ## LOAD KEY (R53, R54) -/

/-- The fields of a LOAD KEY, as numbers. -/
structure LoadFields where
  slot : Nat
  label : Label
  nb : Nat
  na : Nat
  a : Nat
  c : Nat
  screens : ScreenMap
  unsealed : Option Material
deriving DecidableEq, Repr

/-- An occupied slot carries the label (R49). -/
def labelInUse (label : Label) (s : State) : Bool := s.keys.any (fun e => e.2.label == label)

/-- The window and its allowance have assuredly passed, as far as the time state lets it be judged (R53, check 8). -/
def windowPassed (f : LoadFields) (c : Clock) : Bool := c.usable && decide (f.na + f.a + c.u ≤ c.now)

/-- The eight checks of a LOAD KEY in order: the first that fails, or the unsealed material (R53). -/
def loadChecks (f : LoadFields) (s : State) : Except Answer Material :=
  if !slotInRange f.slot then .error .badField
  else if (s.key f.slot).isSome then .error .slotOccupied
  else if labelInUse f.label s then .error .duplicateLabel
  else if f.na ≤ f.nb then .error .windowInvalid
  else if 7200 < f.a ∨ f.c = 0 then .error .badField
  else if screensTaken s.supply.fitted f.screens = 0#16 then .error .badField
  else
    match f.unsealed with
    | none => .error .sealFailed
    | some material => if windowPassed f s.clock then .error .windowPassed else .ok material

/-- The record a LOAD KEY writes, before its evaluation (R54). -/
def loadedKey (f : LoadFields) (material : Material) (fitted : Nat) : Key :=
  { state := .waiting, label := f.label, material := material, nb := f.nb, na := f.na, a := f.a,
    screens := screensTaken fitted f.screens, c := limitTaken f.c, openings := 0, mark := false, expiredAt := none,
    revokedAt := none }

/-- The record as the evaluation of its one slot leaves it, gated by the time state (R54). -/
def loadedAndJudged (f : LoadFields) (material : Material) (s : State) : Key :=
  let k := loadedKey f material s.supply.fitted
  if s.clock.usable then k.moved (k.judged s.clock.now s.clock.u) s.clock.now else k

/-- LOAD KEY (R53, R54): one KEY STATE event, from EMPTY to the state reached, with cause LOADED. -/
def loadKey (f : LoadFields) (kind : Byte) (s : State) : State × Reply :=
  match loadChecks f s with
  | .error refusal => (s, .plain kind refusal)
  | .ok material =>
    let k := loadedAndJudged f material s
    let s1 := s.setKey f.slot k
    (s1.raise (.keyState f.slot none (some k.state) .loaded), .loadKey f.slot k.screens k.c k.state)

/-! ## REVOKE KEY, PURGE KEY, KEY STATUS (R62, R65, R70) -/

/-- REVOKE KEY (R62, R63). KEY STATE goes out before the lanes act on the revocation notice: DESIGN CHOICE, log 29. -/
def revokeKey (slot : Nat) (kind : Byte) (s : State) : State × Reply :=
  if !slotInRange slot then (s, .plain kind .badField)
  else
    match s.key slot with
    | none => (s, .plain kind .slotEmpty)
    | some k =>
      if k.state = .expired ∨ k.state = .revoked then (s, .plain kind .wrongState)
      else
        let s1 := s.setKey slot { k with state := .revoked, revokedAt := s.clock.t }
        let s2 := s1.raise (.keyState slot (some k.state) (some .revoked) .revoked)
        (revocationNotice slot s2, .revokeKey k.state s.clock.t)

/-- PURGE KEY (R65). -/
def purgeKey (slot : Nat) (kind : Byte) (s : State) : State × Reply :=
  if !slotInRange slot then (s, .plain kind .badField)
  else
    match s.key slot with
    | none => (s, .plain kind .slotEmpty)
    | some k =>
      if 0 < s.holderCount slot then (s, .purgeHeld (s.holderMap slot))
      else
        let s1 := { s with keys := removeKey slot s.keys }
        (s1.raise (.keyState slot (some k.state) none .purged), .purgeKey k.state k.openings)

/-- A key as KEY STATUS reports it: never its material (R50, R70). -/
def keyReport (slot : Nat) (k : Key) (s : State) : KeyReport :=
  { state := k.state, label := k.label, nb := k.nb, na := k.na, a := k.a, screens := k.screens, c := k.c,
    openings := k.openings, mark := k.mark, expiredAt := k.expiredAt, revokedAt := k.revokedAt, holders := s.holderMap slot }

/-- KEY STATUS (R70). -/
def keyStatus (slot : Nat) (kind : Byte) (s : State) : State × Reply :=
  if !slotInRange slot then (s, .plain kind .badField)
  else (s, .keyStatus slot ((s.key slot).map (fun k => keyReport slot k s)))

end Sys2Proof.Machine
end

