-- ==== Sys2Proof/Machine/Clock.lean ====
section
/-! DEFINITION. The Site Clock: confirmation, steps, misses, holdover, the ceiling, the floor, SEED TIME, SET CLOCK PARAMETERS, CLOCK STATUS (chapter 2). -/

namespace Sys2Proof.Machine

/-- The clock written. -/
def State.setClock (s : State) (c : Clock) : State := { s with clock := c }

/-! ## Changes of time state (R25, R34) -/

/-- A change of time state has been made: the Key Table takes its notice and evaluates, and a TIME STATE event goes out
(R25). The notice first: DESIGN CHOICE, log 12. -/
def announceTimeState (before : TimeState) (cause : TimeCause) (s : State) : State :=
  (evaluate s).raise (.timeState before s.clock.time cause)

/-- The clock as an entry into HOLDOVER from ASSURED leaves it (R34). -/
def Clock.toHoldover (c : Clock) : Clock :=
  { c with time := .holdover, u0 := c.uMs.getD 0, acc := 0, h := some 0, miss := 0 }

/-- Entry into HOLDOVER from ASSURED with a cause (R34). -/
def enterHoldover (cause : TimeCause) (s : State) : State :=
  announceTimeState .assured cause (s.setClock s.clock.toHoldover)

/-- A loss notice from the framer (R33). -/
def lossNotice (cause : TimeCause) (s : State) : State :=
  let s1 := s.setClock { s.clock with prev := none }
  if s1.clock.time = .assured then enterHoldover cause s1 else s1

/-! ## Reference words (R26 to R32) -/

/-- The four conditions of a confirmation (R27). -/
def confirms (c : Clock) (w q : Nat) : Bool :=
  c.prev.any (fun m => m + 1 == w) && decide (q ≤ 2) && decide (c.floor ≤ w)

/-- The clock as a confirmation of W with a quality leaves it, but for the last step record (R29, R31). In ASSURED the holdover
figures stay as they are. -/
def Clock.confirmed (c : Clock) (w q : Nat) : Clock :=
  let bound := qualityBound q
  if c.time = .assured then { c with t := some w, uMs := some bound, miss := 0, regress := false }
  else
    { c with
      time := .assured, t := some w, uMs := some bound, u0 := bound, acc := 0, h := none, miss := 0, regress := false,
      osc := Config.oscAtSuperframeEnd }

/-- The step a confirmation of W makes, where T existed and differs (R30): signed difference, excess flag, new T. -/
def Clock.stepTo (c : Clock) (w : Nat) : Option StepRecord :=
  match c.t with
  | none => none
  | some t =>
    if t = w then none
    else
      let delta := (w : Int) - (t : Int)
      some { delta := clampDelta delta, excess := decide (c.u < delta.natAbs), t := w }

/-- The notices of a step (R30): TIME STEP, and the step notice to the Key Table and the lanes, in the order asked for. -/
def announceStep (r : StepRecord) (lanesFirst : Bool) (s : State) : State :=
  let s1 := s.raise (.timeStep r.delta r.excess)
  if lanesFirst then evaluate (stepNotice s1) else stepNotice (evaluate s1)

/-- A confirmation of W with a quality (R29 to R31): the clock's new values are all made before any notice goes out. A step's
notices before those of the time state: DESIGN CHOICE, log 29. -/
def confirm (w q : Nat) (lanesFirst : Bool) (s : State) : State :=
  let before := s.clock
  let step := before.stepTo w
  let after := { before.confirmed w q with lastStep := match step with
    | some r => some r
    | none => before.lastStep }
  let s1 := s.setClock after
  let s2 := match step with
    | some r => announceStep r lanesFirst s1
    | none => s1
  if before.time = .assured then s2 else announceTimeState before.time .confirmed s2

/-- A regression (R28): one REFERENCE REGRESSED event per episode. -/
def noteRegression (w : Nat) (s : State) : State :=
  if w < s.clock.floor then
    if s.clock.regress then s
    else (s.setClock { s.clock with regress := true }).raise (.referenceRegressed w s.clock.floor)
  else s

/-- A superframe end report without a confirmation in ASSURED: a miss, the third of which enters HOLDOVER (R32). -/
def noteMiss (s : State) : State :=
  if s.clock.time = .assured then
    if 2 ≤ s.clock.miss then enterHoldover .misses s
    else s.setClock { s.clock with miss := s.clock.miss + 1 }
  else s

/-- A superframe end report without a candidate (R26, R32). -/
def reportNone (s : State) : State :=
  noteMiss (s.setClock { s.clock with prev := none })

/-- A superframe end report with a candidate: confirmed, or a regression and a miss as they apply; the memory then takes its
W whatever its fate (R26 to R28, R32). REFERENCE REGRESSED goes out before a third miss's entry into HOLDOVER: DESIGN CHOICE, log 29. -/
def reportCandidate (w q : Nat) (lanesFirst : Bool) (s : State) : State :=
  let s1 := if confirms s.clock w q then confirm w q lanesFirst s else noteMiss (noteRegression w s)
  s1.setClock { s1.clock with prev := some w }

/-! ## The clock's part of an elapsed tick (R24, steps 1 to 3) -/

/-- T one second on; it stops at its greatest value (R24). -/
def Clock.advanceT (c : Clock) : Clock := { c with t := c.t.map (fun t => min Config.maxTime (t + 1)) }

/-- The holdover figures one tick on (R35, R36). -/
def Clock.advanceHoldover (c : Clock) : Clock :=
  let acc := if c.uMs.getD 0 < Config.maxUMs then c.acc + c.params.r else c.acc
  { c with h := c.h.map (fun h => min 4294967295 (h + 1)), acc := acc, uMs := some (holdoverUMs c.u0 acc) }

/-- The time floor after a tick in ASSURED or HOLDOVER (R39): Nat subtraction takes T − U as 0 where U exceeds T. -/
def Clock.raiseFloor (c : Clock) : Clock := { c with floor := max c.floor (c.now - c.u) }

/-- The clock passes its ceiling at a tick (R37). -/
def passCeiling (s : State) : State :=
  announceTimeState .holdover .ceiling (s.setClock { s.clock with time := .unassured })

/-- The clock's steps of an elapsed tick: T, the holdover figures and the ceiling test, the floor (R24). -/
def clockTick (s : State) : State :=
  match s.clock.time with
  | .noTime => s
  | .assured => s.setClock s.clock.advanceT.raiseFloor
  | .unassured => s.setClock s.clock.advanceT.advanceHoldover
  | .holdover =>
    let c := s.clock.advanceT.advanceHoldover
    if c.params.uc < c.u then passCeiling (s.setClock c) else s.setClock c.raiseFloor

/-- The next tick is a holdover tick at which U exceeds Uc (R37). -/
def Clock.ceilingNext (c : Clock) : Bool :=
  c.time == .holdover && decide (c.params.uc < c.advanceT.advanceHoldover.u)

/-! ## Requests (R38, R40, R41, R43) -/

/-- The clock as an accepted SEED TIME leaves it (R40). -/
def Clock.seeded (c : Clock) (value s : Nat) : Clock :=
  let u0 := s * 1000
  { c with
    time := if c.params.uc < ceilSeconds u0 then .unassured else .holdover
    t := some value, u0 := u0, acc := 0, uMs := some u0, h := some 0 }

/-- SEED TIME (R40). -/
def seedTime (value s' : Nat) (kind : Byte) (s : State) : State × Reply :=
  if s.clock.time = .noTime then
    let taken := seedTaken s'
    let s1 := s.setClock (s.clock.seeded value taken)
    (announceTimeState .noTime .seed s1, .seedTime taken s1.clock.time)
  else (s, .plain kind .wrongState)

/-- The time state the comparison of U with the ceiling asks for (R38). -/
def Clock.ceilingState (c : Clock) : TimeState :=
  match c.time with
  | .holdover => if c.params.uc < c.u then .unassured else .holdover
  | .unassured => if c.params.uc < c.u then .unassured else .holdover
  | other => other

/-- The comparison of U with a ceiling just written (R38). -/
def compareCeiling (s : State) : State :=
  if s.clock.ceilingState = s.clock.time then s
  else announceTimeState s.clock.time .parameter (s.setClock { s.clock with time := s.clock.ceilingState })

/-- SET CLOCK PARAMETERS (R41). The comparison of R38 is made when a Uc is written. -/
def setClockParameters (r uc : Option Nat) (k e : Option Nat) (checkLoss : Option Bool) (failTime : Option Nat)
    (strict : Option Bool) (s : State) : State × Reply :=
  let params := s.clock.params.taking r uc k e checkLoss failTime strict
  let s1 := s.setClock { s.clock with params := params }
  let s2 := if uc.isSome then compareCeiling s1 else s1
  (s2, .setClockParameters params s2.clock.time)

/-- The clock and the framer as CLOCK STATUS reports them (R21, R43). -/
def clockReport (s : State) : ClockReport :=
  let c := s.clock
  let f := s.framer
  { time := c.time, t := c.t, u := c.uReported, uMs := c.uMs, floor := c.floor, h := c.h, miss := c.miss,
    lastStep := c.lastStep, regress := c.regress, params := c.params, framer := f.state, alarm := f.alarm,
    position := f.lastPosition, source := f.lastSource, quality := f.lastQuality, counters := f.counters,
    captured := f.captured }

/-! ## Supplies and reset (R44 to R46) -/

/-- Main power failure or main reset at the clock (R44, R45): out of ASSURED without an event, the Key Table taking the notice;
the memory absent and the miss count 0. `regress` is the regression episode flag it leaves. -/
def clockLeavesMain (regress : Bool) (s : State) : State :=
  let wasAssured := s.clock.time = .assured
  let c := if wasAssured then s.clock.toHoldover else s.clock
  let s1 := s.setClock { c with prev := none, miss := 0, regress := regress }
  if wasAssured then evaluate s1 else s1

end Sys2Proof.Machine
end

