-- ==== Sys2Proof/Machine/Ports.lean ====
section
/-! DEFINITION. The Port Controller's own state: error windows and the degrade flag, binding, policy (7.2, 7.4, 7.5). -/

namespace Sys2Proof.Machine

/-! ## Error windows and the degrade flag (R160 to R162) -/

/-- One frame error into the current slice, which stops at 255 (R162). -/
def addError : List Nat → List Nat
  | [] => []
  | current :: rest => min 255 (current + 1) :: rest

/-- Screen port n becomes DEGRADED, with its event (R162). -/
def degrade (n : LaneIx) (s : State) : State :=
  (s.setPort n { s.port n with degraded := true }).raise (.portDegraded n (s.port n).windowSum (s.port n).dtInForce)

/-- Screen port n's degrade flag clears, with its event (R162). -/
def recover (n : LaneIx) (s : State) : State :=
  (s.setPort n { s.port n with degraded := false }).raise (.portRecovered n (s.port n).windowSum (s.port n).dtInForce)

/-- The threshold is reached with the flag clear (R162). -/
def ScreenPort.overThreshold (p : ScreenPort) : Bool := !p.degraded && decide (p.dtInForce ≤ p.windowSum)

/-- The window has fallen back to half the threshold with the flag set (R162). -/
def ScreenPort.underHalf (p : ScreenPort) : Bool := p.degraded && decide (p.windowSum ≤ p.dtInForce / 2)

/-- A frame error on a port (R160): it counts once as a soft error and, on a screen port, once in the current slice, which may
degrade the port. -/
def frameError (p : PortId) (s : State) : State :=
  let s1 := s.setLink p { s.link p with softErrors := bump (s.link p).softErrors }
  match p with
  | .mgmt => s1
  | .screen n =>
    let s2 := s1.setPort n { s1.port n with slices := addError (s1.port n).slices }
    if (s2.port n).overThreshold then degrade n s2 else s2

/-- A candidate's spacing count one tick on; it stops at 3 (R167). -/
def PortState.spaced : PortState → PortState
  | .candidate identity count spacing => .candidate identity count (min 3 (spacing + 1))
  | st => st

/-- The elapsed tick at screen port n, where it is fitted: the oldest slice leaves, the lane's Dt is taken, the flag is tested,
and a candidate's spacing advances (R162, R167). -/
def portTick (n : LaneIx) (s : State) : State :=
  if s.isFitted n then
    let p := s.port n
    let s1 := s.setPort n { p with slices := (0 :: p.slices).take 8, dtInForce := (s.lane n).dt, state := p.state.spaced }
    if (s1.port n).underHalf then recover n s1
    else if (s1.port n).overThreshold then degrade n s1
    else s1
  else s

/-! ## Binding (R167, R168) -/

/-- Screen port n's state written. -/
def State.setPortState (s : State) (n : LaneIx) (st : PortState) : State := s.setPort n { s.port n with state := st }

/-- A refusal by the Port Controller on screen port n, carrying the port state (R165). -/
def refuseOnPort (n : LaneIx) (kind : Byte) (answer : Answer) (s : State) : Reply :=
  .portRefusal kind answer (some (s.port n).view)

/-- The port becomes BOUND with the candidate identity: PORT BOUND, and a lane bind notice in the SCREEN role (R167). The event
before the lane acts: DESIGN CHOICE, log 29. -/
def bindPort (n : LaneIx) (identity : Identity) (s : State) : State :=
  let s1 := s.setPortState n (.bound identity)
  let s2 := s1.raise (.portBound n identity (s1.port n).entry.role)
  if (s1.port n).entry.role = .screen then laneBind n s2 else s2

/-- The state an accepted ANNOUNCE leaves a port in that is not BOUND, short of binding (R167); none is the third in a row,
which binds. -/
def PortState.announced (st : PortState) (identity : Identity) : Option PortState :=
  match st with
  | .candidate known count spacing =>
    if known = identity ∧ spacing ≤ 2 then
      if count = 1 then some (.candidate identity 2 0) else none
    else some (.candidate identity 1 0)
  | _ => some (.candidate identity 1 0)

/-- An ANNOUNCE judged on a port that is UNBOUND or CANDIDATE (R167). -/
def judgeAnnounce (n : LaneIx) (identity : Identity) (kind : Byte) (s : State) : State × Reply :=
  let p := s.port n
  if p.entry.role = .disabled ∨ p.entry.matches identity = false then
    let s1 := s.setPortState n .unbound
    (s1, refuseOnPort n kind .notPermitted s1)
  else
    let s1 := match p.state.announced identity with
      | some st => s.setPortState n st
      | none => bindPort n identity s
    (s1, .announce (s1.port n).view)

/-- A BOUND port whose server announces another identity becomes UNBOUND: PORT UNBOUND, and an identity change notice where the
bound role was SCREEN (R168). The event before the lane acts: DESIGN CHOICE, log 29. -/
def unbindForIdentity (n : LaneIx) (old : Identity) (s : State) : State :=
  let s1 := (s.setPortState n .unbound).raise (.portUnbound n .identityChange old)
  if (s.port n).entry.role = .screen then identityChange n s1 else s1

/-- ANNOUNCE on screen port n (R167, R168). -/
def announce (n : LaneIx) (identity : Identity) (kind : Byte) (s : State) : State × Reply :=
  match (s.port n).state with
  | .bound old =>
    if old = identity then (s, .announce (s.port n).view) else judgeAnnounce n identity kind (unbindForIdentity n old s)
  | _ => judgeAnnounce n identity kind s

/-! ## Policy (R169, R170) -/

/-- The effects of a new entry on a BOUND port whose role was `old` (R169). -/
def rejudgeBound (n : LaneIx) (old : Role) (identity : Identity) (s : State) : State :=
  let entry := (s.port n).entry
  if entry.role = .disabled ∨ entry.matches identity = false then
    let s1 := (s.setPortState n .unbound).raise (.portUnbound n .setPort identity)
    if old = .screen then laneUnbind n s1 else s1
  else if old = .screen ∧ entry.role = .observer then laneUnbind n s
  else if old = .observer ∧ entry.role = .screen then laneBind n s
  else s

/-- The port state judged against an entry just written (R169). -/
def rejudgePort (n : LaneIx) (old : Role) (s : State) : State :=
  let entry := (s.port n).entry
  match (s.port n).state with
  | .unbound => s
  | .candidate identity _ _ =>
    if entry.role ≠ .disabled ∧ entry.matches identity = true then s else s.setPortState n .unbound
  | .bound identity => rejudgeBound n old identity s

/-- The entry a SET PORT writes (R166, R188). -/
def entryOf (identity : Option Identity) (role : Role) (classes : Byte) : Binding :=
  { identity := identity, role := role, showControl := classes.getLsbD 0, queries := classes.getLsbD 1 }

/-- A SET PORT refused at a port of 15 or below, with the port state and the lane state (R169). -/
def refuseSetPort (n : LaneIx) (answer : Answer) (s : State) : Reply := .setPortRefused answer (s.port n).view (s.lane n).state

/-- SET PORT (R169). -/
def setPort (port : Byte) (identity : Option Identity) (role classes : Byte) (kind : Byte) (s : State) : State × Reply :=
  match laneOf port with
  | none => (s, .plain kind .badField)
  | some n =>
    match s.isFitted n, roleOf role, classesInRange classes with
    | true, some r, true =>
      if s.policyLock then (s, refuseSetPort n .locked s)
      else if (s.lane n).state.running then (s, refuseSetPort n .wrongState s)
      else
        let old := (s.port n).entry.role
        let s1 := rejudgePort n old (s.setPort n { s.port n with entry := entryOf identity r classes })
        (s1, .setPort (entryOf identity r classes) (s1.port n).view)
    | _, _, _ => (s, refuseSetPort n .badField s)

/-- LOCK POLICY (R170). -/
def lockPolicy (kind : Byte) (s : State) : State × Reply := ({ s with policyLock := true }, .plain kind .accepted)

end Sys2Proof.Machine
end

