-- ==== Sys2Proof/Machine/Tick.lean ====
section
/-! DEFINITION. The elapsed-second tick: the clock's steps, and the shares of its receivers (R23, R24). -/

namespace Sys2Proof.Machine

/-! ## The framer's share (R19) -/

/-- The fail timer one tick on, and the alarm where it is due (R19). -/
def failTick (s : State) : State :=
  let f := { s.framer with tickOwed := false }
  if f.state = .aligned then { s with framer := f }
  else
    let timer := min 120 (f.failTimer + 1)
    let s1 := { s with framer := { f with failTimer := timer } }
    if !f.alarm && decide (s.clock.params.failTime ≤ timer) then
      ({ s1 with framer := { s1.framer with alarm := true } }).raise (.referenceFailed f.state)
    else s1

/-- The framer's next tick raises the alarm (R19). -/
def alarmNext (s : State) : Bool :=
  s.framer.state != .aligned && !s.framer.alarm && decide (s.clock.params.failTime ≤ min 120 (s.framer.failTimer + 1))

/-! ## Handing a tick on (R24, step 4; log 4) -/

/-- The framer takes the tick, or owes it where the queue asks for REFERENCE FAILED as a command of its own. -/
def shareFramer (apart : List TickPart) (s : State) : State :=
  if apart.contains .framer && alarmNext s then { s with framer := { s.framer with tickOwed := true } } else failTick s

/-- Lane n's entries and clearing count down; what reaches 0 times out, at once or by a command of its own. -/
def shareRelease (apart : List TickPart) (n : LaneIx) (s : State) : State :=
  let s1 := countDownLane n s
  if apart.contains (.release n) then s1 else timeOutClearing n (timeOutWithdrawals n s1)

/-- Lane n takes the tick, or owes it where the queue asks for its boundary or hold limit as a command of its own. -/
def shareLane (apart : List TickPart) (n : LaneIx) (s : State) : State :=
  if apart.contains (.lane n) && ((s.lane n).atBoundary || (s.lane n).atHoldLimit) then
    s.setLane n { s.lane n with tickOwed := true }
  else laneTick n s

/-- The tick goes on to its receivers, each reading T, U and the time state as they now stand (R24): framer, Release Unit, lanes,
ports, Key Table. While the main-supplied blocks are not at work the Key Table alone takes it (R60, R184). The order is one of
those the spec allows: DESIGN CHOICE, log 4. -/
def handOn (apart : List TickPart) (s : State) : State :=
  if s.running then
    let s1 := shareFramer apart s
    let s2 := s1.forLanes (shareRelease apart)
    let s3 := s2.forLanes (shareLane apart)
    let s4 := s3.forLanes portTick
    evaluate s4
  else evaluate s

/-! ## Shares still owed (log 26) -/

/-- Lane n takes a tick it still owes. -/
def takeOwedLane (n : LaneIx) (s : State) : State := if (s.lane n).tickOwed then laneTick n s else s

/-- The shares of the last tick that no command has named are taken, before the next tick. -/
def settleTick (s : State) : State :=
  if s.running then
    let s1 := if s.framer.tickOwed then failTick s else s
    let s2 := s1.forLanes (fun n s => timeOutClearing n (timeOutWithdrawals n s))
    s2.forLanes takeOwedLane
  else s

/-- One elapsed-second tick (R24): what the last one still owes, the clock's own steps, and the handing on. -/
def tick (apart : List TickPart) (s : State) : State := handOn apart (clockTick (settleTick s))

/-! ## Ticks of the oscillator (R23) -/

/-- A superframe start mark in ASSURED restarts the oscillator's count (R23). -/
def restartOscillator (s : State) : State := s.setClock { s.clock with osc := 0 }

/-- The oscillator's count passes a second boundary and goes on in phase: a boundary that has been waiting since the clock left
ASSURED takes its second off the count, and one that a command names before the count is there starts it (R23, log 6). -/
def passBoundary (s : State) : State := s.setClock { s.clock with osc := s.clock.osc - Config.oscSecond }

/-- A second boundary of the retained oscillator: the tick in every time state but ASSURED, while the domain's supply holds. -/
def oscillatorTick (apart : List TickPart) (s : State) : State :=
  if s.retained && s.clock.time != .assured then tick apart (passBoundary s) else s

/-- The holdover tick at which U exceeds Uc (R37). Where the next tick is not one, nothing: log 5. -/
def ceilingTick (apart : List TickPart) (s : State) : State :=
  let ready := settleTick s
  if s.retained && ready.clock.ceilingNext then tick apart (passBoundary s) else s

/-- One cycle of the oscillator (R23): it counts, and outside ASSURED the 32,768th cycle since the last tick is a second boundary.
In ASSURED the start marks alone restart the count, which goes on past the second where a mark is late; so a clock that leaves
ASSURED before that mark finds its boundary due, and no tick is lost (R23, R181). Log 6. -/
def oscillatorCycle (s : State) : State :=
  if s.retained then
    let s1 := s.setClock { s.clock with osc := s.clock.osc + 1 }
    if Config.oscSecond ≤ s1.clock.osc then oscillatorTick [] s1 else s1
  else s

/-! ## The receivers' shares as commands of their own -/

/-- REFERENCE FAILED: the framer takes the tick it owes, and the alarm stands (R19). -/
def takeReferenceFailed (s : State) : State :=
  if s.running && s.framer.tickOwed && alarmNext s then failTick s else s

/-- BOUNDARY: lane n takes the tick it owes, and R reaches 0 (R84, R85). -/
def takeBoundary (n : LaneIx) (s : State) : State :=
  if s.running && (s.lane n).tickOwed && (s.lane n).atBoundary then laneTick n s else s

/-- HOLD LIMIT: lane n takes the tick it owes, and its timer reaches the limit taken (R97). -/
def takeHoldLimit (n : LaneIx) (s : State) : State :=
  if s.running && (s.lane n).tickOwed && (s.lane n).atHoldLimit then laneTick n s else s

/-- WITHDRAWAL TIMEOUT: lane n's entries that have reached 0 time out (R137). -/
def takeWithdrawalTimeout (n : LaneIx) (s : State) : State := if s.running then timeOutWithdrawals n s else s

/-- CLEARING TIMEOUT: lane n's clearing countdown has reached 0 (R148). -/
def takeClearingTimeout (n : LaneIx) (s : State) : State := if s.running then timeOutClearing n s else s

end Sys2Proof.Machine
end

