-- ==== Sys2Proof/Machine/Framer.lean ====
section
/-! DEFINITION. The Reference Framer: the bit grid, silence, finding and keeping alignment, superframe ends, REFRAME, broadcast capture (chapter 1, R190). -/

namespace Sys2Proof.Machine

/-- The framer written. -/
def State.setFramer (s : State) (f : Framer) : State := { s with framer := f }

/-- The framer's counters changed. -/
def Framer.count (f : Framer) (g : FramerCounters → FramerCounters) : Framer := { f with counters := g f.counters }

/-! ## Reading the line (R1, R4, R5, R190) -/

/-- The alignment pattern, frame 0 first (R4). -/
def pattern : List LineBit := [.one, .zero, .zero, .one, .one, .one, .zero, .one]

/-- The bit of the history `back` periods before the latest. -/
def Framer.bitBack (f : Framer) (back : Nat) : LineBit := f.history.getD back .invalid

/-- The eight bits on which a match at the latest period rests, earliest first (1.3). -/
def Framer.overheadBits (f : Framer) : List LineBit := [56, 48, 40, 32, 24, 16, 8, 0].map f.bitBack

/-- A pattern match at the latest period; an invalid bit matches nothing (R1). -/
def Framer.patternMatch (f : Framer) : Bool := f.overheadBits == pattern

/-- The 114 covered bits of a superframe whose period 127 is the latest: the payload bits in order, then q1 and q0 (R4, R5). -/
def Framer.coveredBits (f : Framer) : List LineBit :=
  let bit (period : Nat) : LineBit := f.bitBack (127 - period)
  ((List.range 112).map (fun i => bit (8 * (i / 7) + i % 7 + 1))) ++ [bit 112, bit 120]

/-- The carried check bits c5 to c0, the latest period being the overhead bit of frame 13 (R4). -/
def Framer.carriedCheck (f : Framer) : List LineBit := [40, 32, 24, 16, 8, 0].map f.bitBack

/-- A valid bit as a Boolean; none for an invalid one. -/
def LineBit.value : LineBit → Option Bool
  | .zero => some false
  | .one => some true
  | .invalid => none

/-- The values of bits that are all valid. -/
def validBits (bits : List LineBit) : Option (List Bool) := bits.mapM LineBit.value

/-- One bit into the CRC-6 register (R190). -/
def crc6Bit (reg : BitVec 6) (bit : Bool) : BitVec 6 :=
  let shifted := reg <<< 1
  if xor reg.msb bit then shifted ^^^ 0b000011#6 else shifted

/-- The computed check of 114 covered bits (R190). -/
def crc6 (bits : List Bool) : BitVec 6 := bits.foldl crc6Bit 0#6

/-- The check bits a register holds, c5 first (R190). -/
def checkBits (reg : BitVec 6) : List Bool := [5, 4, 3, 2, 1, 0].map (fun i => reg.getLsbD i)

/-- A check over covered bits passes against the carried check bits (R5). -/
def checkPasses (covered carried : List LineBit) : Bool :=
  match validBits covered, validBits carried with
  | some bits, some check => checkBits (crc6 bits) == check
  | _, _ => false

/-- The number a run of line bits spells, most significant first; an invalid bit, which no passing check holds, counts 0. -/
def bitsNat (bits : List LineBit) : Nat := bits.foldl (fun n b => 2 * n + (if b == .one then 1 else 0)) 0

/-- Payload byte `i` of covered bits (R4). -/
def payloadByte (covered : List LineBit) (i : Nat) : Nat := bitsNat ((covered.drop (8 * i)).take 8)

/-- The time word W (R4). -/
def timeWord (covered : List LineBit) : Nat := bitsNat (covered.take 32)

/-- The source id (R4). -/
def sourceId (covered : List LineBit) : Nat := payloadByte covered 4

/-- The quality level, 2 × q1 + q0 (R4). -/
def quality (covered : List LineBit) : Nat := bitsNat ((covered.drop 112).take 2)

/-- The nine broadcast bytes (R4). -/
def broadcast (covered : List LineBit) : List Byte := (List.range 9).map (fun i => BitVec.ofNat 8 (payloadByte covered (5 + i)))

/-! ## Positions (R9, R10) -/

/-- The superframe period in progress (R10). -/
def Framer.superframePeriod (f : Framer) : Nat := (f.linePhase + 128 - f.lastPosition.getD 0) % 128

/-- The line phase of the period that has just ended. -/
def Framer.endedPhase (f : Framer) : Nat := (f.linePhase + 127) % 128

/-! ## Leaving ALIGNED (R2, R14, R17, R19) -/

/-- What every departure from ALIGNED discards and starts: the awaiting record, the held broadcast record, the windows, the fail
timer from 0 (R2, R14). -/
def Framer.dropped (f : Framer) (state : FramerState) : Framer :=
  { f with
    state := state, awaiting := none, heldBytes := none, lossWindow := [], checkEnds := 0, checkFails := 0, failTimer := 0,
    fresh := false }

/-- Alignment is lost with a reason (R14). -/
def loseAlignment (cause : TimeCause) (s : State) : State :=
  let f := (s.framer.dropped .search).count (fun c => { c with losses := bump c.losses })
  lossNotice cause (s.setFramer f)

/-! ## Silence (R2, R3) -/

/-- The missing-transition run has reached 32 in a state other than SILENT (R2). -/
def Framer.silenceDue (f : Framer) : Bool := decide (Config.silentRun ≤ f.missingRun) && f.state != .silent

/-- Entry into SILENT (R2). -/
def silenceEntry (s : State) : State :=
  if s.running && s.framer.silenceDue then
    let counted := s.framer.count (fun c => { c with silences := bump c.silences })
    if s.framer.state = .aligned then
      lossNotice .silence (s.setFramer { counted.dropped .silent with clean := 0 })
    else s.setFramer { counted with state := .silent, candidate := none, clean := 0, fresh := false }
  else s

/-- The end of SILENT at a complete clean window (R3). -/
def cleanWindow (s : State) : State :=
  if s.running && s.framer.state == .silent && decide (Config.cleanWindow ≤ s.framer.clean) then
    s.setFramer { s.framer with state := .search, missingRun := 0, clean := 0, fresh := false }
  else s

/-! ## Finding alignment (R6 to R9) -/

/-- A candidate position is found in SEARCH (R6). -/
def candidatePosition (s : State) : State :=
  let f := s.framer
  if s.running && f.state == .search && f.fresh && f.patternMatch then
    s.setFramer { f with
      state := .confirm, fresh := false,
      candidate := some { position := f.endedPhase, age := 0, strict := s.clock.params.strict, gathered := none } }
  else s

/-- The candidate is dropped; SEARCH goes on from the next period (R7, R8, R16). -/
def Framer.dropCandidate (f : Framer) : Framer := { f with state := .search, candidate := none, fresh := false }

/-- A pattern match at the candidate's present age is a mimic (R7, R8). -/
def Candidate.mimicAge (c : Candidate) : Bool :=
  if c.strict then decide (0 < c.age ∧ c.age < 304 ∧ c.age % 128 ≠ 0) else decide (0 < c.age ∧ c.age < 128)

/-- A mimic: counted, and with strict acquisition on the candidate is dropped (R7, R8). -/
def mimic (s : State) : State :=
  let f := s.framer
  match f.candidate with
  | none => s
  | some c =>
    if s.running && f.state == .confirm && f.fresh && f.patternMatch && c.mimicAge then
      let counted := f.count (fun k => { k with mimics := bump k.mimics })
      s.setFramer (if c.strict then counted.dropCandidate else { counted with fresh := false })
    else s

/-- The framer ALIGNED at a position, its windows at their start, K, E and check-loss taken up (R9, R13). -/
def Framer.alignedAt (f : Framer) (position : Nat) (p : ClockParams) : Framer :=
  { f with
    state := .aligned, lastPosition := some position, lossWindow := [], checkEnds := 0, checkFails := 0, kTaken := p.k,
    eTaken := p.e, checkLossTaken := p.checkLoss, candidate := none, awaiting := none, fresh := false }

/-- The position record of a declaration (R9): ALIGNMENT CHANGED where a last position exists and differs. -/
def recordPosition (position : Nat) (s : State) : State :=
  match s.framer.lastPosition with
  | none => s
  | some last =>
    if last = position then s
    else
      (s.setFramer (s.framer.count (fun c => { c with changes := bump c.changes }))).raise
        (.alignmentChanged last position)

/-- The reference-failed alarm at a declaration (R19). -/
def restoreReference (position : Nat) (s : State) : State :=
  if s.framer.alarm then (s.setFramer { s.framer with alarm := false }).raise (.referenceRestored position) else s

/-- Alignment is declared for a candidate position (R9), but for a strict candidate's delivery. ALIGNMENT CHANGED goes out before
REFERENCE RESTORED: DESIGN CHOICE, log 29. -/
def declareAlignment (candidate : Nat) (s : State) : State :=
  let position := (candidate + 72) % 128
  let s1 := recordPosition position s
  restoreReference position (s1.setFramer (s1.framer.alignedAt position s1.clock.params))

/-! ## Superframe ends (R12, R15, R17, R18) -/

/-- Broadcast capture at a passing check (R17): captured at the second equal record in a row, with BROADCAST CHANGED where that
changes the captured bytes. -/
def captureBroadcast (bytes : List Byte) (s : State) : State :=
  let f := s.framer
  if f.heldBytes = some bytes ∧ f.captured ≠ some bytes then
    (s.setFramer { f with captured := some bytes }).raise (.broadcastChanged bytes)
  else s.setFramer { f with heldBytes := some bytes }

/-- A superframe whose check has passed is delivered: the candidate to the Site Clock, its source id and quality kept, its
broadcast bytes offered for capture (R15, R17, R18). BROADCAST CHANGED goes out after the clock's events: DESIGN CHOICE, log 29. -/
def deliver (covered : List LineBit) (lanesFirst : Bool) (s : State) : State :=
  let s1 := s.setFramer { s.framer with
    lastSource := some (sourceId covered), lastQuality := some (quality covered) }
  captureBroadcast (broadcast covered) (reportCandidate (timeWord covered) (quality covered) lanesFirst s1)

/-- The check window advanced by one superframe end (R12). -/
def Framer.advanceCheckWindow (f : Framer) : Framer :=
  if 16 ≤ f.checkEnds then { f with checkEnds := 1, checkFails := 0 } else { f with checkEnds := f.checkEnds + 1 }

/-- A failed check counted (R12). -/
def Framer.countCheckError (f : Framer) : Framer :=
  { f.count (fun c => { c with checkErrors := bump c.checkErrors }) with checkFails := f.checkFails + 1 }

/-- A failed check costs alignment (R12). DEDUCED that only a failed check is so tested, log 10. -/
def Framer.checkLimitReached (f : Framer) : Bool := f.checkLossTaken && decide (f.eTaken ≤ f.checkFails)

/-- A superframe end is due: the overhead bit of period 104 is in (R10). -/
def Framer.endDue (f : Framer) : Bool := f.state == .aligned && f.fresh && f.superframePeriod == 105

/-- The superframe end, the framer's record taken out of it: no check evaluated, a passing check, or a failing one (R12, R15,
R17). -/
def superframeEnd (lanesFirst : Bool) (s : State) : State :=
  let f := s.framer
  if s.running && f.endDue then
    let f1 := { f.advanceCheckWindow with awaiting := none, fresh := false }
    match f.awaiting with
    | none => reportNone (s.setFramer { f1 with heldBytes := none })
    | some covered =>
      if checkPasses covered f.carriedCheck then deliver covered lanesFirst (s.setFramer f1)
      else
        let f2 := { f1.countCheckError with heldBytes := none }
        if f2.checkLimitReached then loseAlignment .check (s.setFramer f2) else reportNone (s.setFramer f2)
  else s

/-! ## Confirmation tests (R7, R8) -/

/-- The test at p + 128 with strict acquisition off (R7). -/
def confirmTest (s : State) : State :=
  let f := s.framer
  match f.candidate with
  | none => s
  | some c =>
    if s.running && f.state == .confirm && f.fresh && !c.strict && c.age == 128 then
      if f.patternMatch then declareAlignment c.position s else s.setFramer f.dropCandidate
    else s

/-- The check of the third superframe over the gathered second one passes (R8). -/
def Framer.strictCheck (f : Framer) (c : Candidate) : Option (List LineBit) :=
  match c.gathered with
  | none => none
  | some covered => if checkPasses covered f.carriedCheck then some covered else none

/-- The three tests with strict acquisition on (R8); the passing check of the last is treated at once as at a superframe end
(R9). -/
def strictConfirmTest (lanesFirst : Bool) (s : State) : State :=
  let f := s.framer
  match f.candidate with
  | none => s
  | some c =>
    if s.running && f.state == .confirm && f.fresh && c.strict then
      if c.age = 128 ∨ c.age = 256 then
        s.setFramer (if f.patternMatch then { f with fresh := false } else f.dropCandidate)
      else if c.age = 304 then
        match f.strictCheck c with
        | some covered => deliver covered lanesFirst (declareAlignment c.position s)
        | none => s.setFramer f.dropCandidate
      else s
    else s

/-! ## Superframe starts and alignment tests (R10, R11, R13, R23) -/

/-- A superframe start is due: period 0 of the aligned superframe begins (R10). -/
def Framer.startDue (f : Framer) : Bool := f.state == .aligned && f.fresh && f.superframePeriod == 0

/-- A superframe start (R10, R13): K, E and check-loss are taken up, and the start mark is the elapsed tick in ASSURED (R23). -/
def superframeStart (apart : List TickPart) (s : State) : State :=
  if s.running && s.framer.startDue then
    let p := s.clock.params
    let s1 := s.setFramer { s.framer with
      kTaken := p.k, eTaken := p.e, checkLossTaken := p.checkLoss, fresh := false }
    if s1.clock.time = .assured then tick apart (restartOscillator s1) else s1
  else s

/-- An alignment test is due: the overhead bit of period 56 is in (R10). -/
def Framer.testDue (f : Framer) : Bool := f.state == .aligned && f.fresh && f.superframePeriod == 57

/-- The framer after an alignment test has judged the superframe and updated the loss window (R11). -/
def Framer.judged (f : Framer) : Framer :=
  let errored := !f.patternMatch
  let f1 := if errored then f.count (fun c => { c with errored := bump c.errored }) else f
  { f1 with lossWindow := (errored :: f.lossWindow).take 8, fresh := false }

/-- An alignment test: alignment is lost when K errored marks stand in the loss window (R11). -/
def alignmentTest (s : State) : State :=
  if s.running && s.framer.testDue then
    let f := s.framer.judged
    if f.kTaken ≤ (f.lossWindow.filter id).length then loseAlignment .errored (s.setFramer f) else s.setFramer f
  else s

/-! ## The end of a bit period (R1, R3) -/

/-- What the line must have had done by the end of a period: every instant due at the end of the period before it. The
queue may name each; what it has not named is done here, silence first (log 3). -/
def settleLine (s : State) : State :=
  superframeEnd false (alignmentTest (superframeStart [] (strictConfirmTest false (confirmTest (mimic (candidatePosition
    (cleanWindow (silenceEntry s))))))))

/-- The bit of the period in progress (R1). -/
def Framer.periodBit (f : Framer) : LineBit :=
  if !f.startSeen then .invalid else if f.midSeen then .one else .zero

/-- The framer with the period in progress ended (R1, R3): history, phase, run and clean window advance, and the grid's next
period begins where the boundary is. -/
def Framer.endPeriod (f : Framer) : Framer :=
  { f with
    history := f.periodBit :: f.history.take 127
    linePhase := (f.linePhase + 1) % 128
    missingRun := if f.startSeen then 0 else f.missingRun + 1
    clean := if f.state = .silent ∧ f.startSeen = true then f.clean + 1 else 0
    candidate := f.candidate.map (fun c => { c with age := c.age + 1 })
    gridPhase := 0, startSeen := f.nextStart, midSeen := false, nextStart := false, fresh := true }

/-- A superframe that is complete with the period just ended is kept: the second superframe of a strict candidate (R8), and in
ALIGNED the superframe whose period 127 it was (R10). -/
def Framer.gather (f : Framer) : Framer :=
  match f.state, f.candidate with
  | .confirm, some c =>
    if c.strict && c.age == 199 then { f with candidate := some { c with gathered := some f.coveredBits } } else f
  | .aligned, _ => if f.superframePeriod = 0 then { f with awaiting := some f.coveredBits } else f
  | _, _ => f

/-- The period in progress ends (R1). -/
def endPeriod (s : State) : State :=
  let s1 := settleLine s
  s1.setFramer s1.framer.endPeriod.gather

/-- The period in progress ends, while the framer is at work. -/
def bitPeriodEnd (s : State) : State := if s.running then endPeriod s else s

/-- A period whose closing transition has been seen has ended (R1). -/
def closePeriod (s : State) : State := if s.running && s.framer.nextStart then endPeriod s else s

/-- Everything that has come due and that no command has named is done: the instants of the line, then the shares of the last
tick. What stops the framer comes after it: DESIGN CHOICE, log 32. -/
def settleDue (s : State) : State := settleTick (settleLine (closePeriod s))

/-! ## Transitions (R1) -/

/-- `n` periods end one after another. -/
def endPeriods : Nat → State → State
  | 0, s => s
  | n + 1, s => endPeriods n (endPeriod s)

/-- A transition at `phase` nanoseconds of the grid's period: a period-start transition re-phases the grid, a mid-period one is
marked, any other or a further one in its window is ignored (R1). The windows leave out their ends: DESIGN CHOICE, log 8. -/
def Framer.transition (f : Framer) (phase : Nat) : Framer :=
  if 4 * phase < Config.periodNs then
    if f.startSeen then { f with gridPhase := phase } else { f with startSeen := true, gridPhase := 0 }
  else if 3 * Config.periodNs < 4 * phase then
    { f with nextStart := true, gridPhase := 0 }
  else if Config.periodNs < 4 * phase ∧ 4 * phase < 3 * Config.periodNs then { f with midSeen := true, gridPhase := phase }
  else { f with gridPhase := phase }

/-- A transition `ns` nanoseconds after the last transition or period end. A period whose closing transition has been seen
has ended, and so has each period the grid has run past since (R1). -/
def lineTransition (ns : Nat) (s : State) : State :=
  if s.running then
    let s1 := closePeriod s
    let total := s1.framer.gridPhase + ns
    let s2 := endPeriods (total / Config.periodNs) s1
    s2.setFramer (s2.framer.transition (total % Config.periodNs))
  else s

/-! ## REFRAME (R16) -/

/-- REFRAME (R16), which either order of R16 lets come before a test of the same period: one that is due and that the queue has not
named is not made. DESIGN CHOICE, log 3. -/
def reframe (s : State) : State × Reply :=
  let s1 := match s.framer.state with
    | .silent => s
    | .search => s.setFramer { s.framer with fresh := false }
    | .confirm => s.setFramer s.framer.dropCandidate
    | .aligned => loseAlignment .reframe s
  (s1, .reframe s1.framer.state)

end Sys2Proof.Machine
end

