-- ==== Sys2Proof/Machine/Requests.lean ====
section
/-! DEFINITION. Requests and characters: admission, the owner of each kind, the taking of a buffered request, the receiver, the sending of a frame (7.1, 7.3, 7.4, 7.6). -/

namespace Sys2Proof.Machine

/-! ## Admission (R165, R166) -/

/-- The entry admits QUEUE REEL, STOP SHOW, HOLD SHOW and RESUME SHOW (R166). -/
def Binding.admitsShow (e : Binding) : Bool := e.role == .screen && e.showControl

/-- The entry admits LANE STATUS and CLOCK STATUS (R166). -/
def Binding.admitsQueries (e : Binding) : Bool := e.role != .disabled && e.queries

/-- The entry admits ERASED and ERASED ALL (R166). -/
def Binding.admitsErased (e : Binding) : Bool := e.role == .screen

/-- Checks 3 and 4 of a screen request, then its owner (R165). -/
def underEntry (n : LaneIx) (allows : Binding → Bool) (kind : Byte) (owner : State → State × Reply) (s : State) : State × Reply :=
  if !(s.port n).state.isBound then (s, refuseOnPort n kind .notBound s)
  else if !allows (s.port n).entry then (s, refuseOnPort n kind .notPermitted s)
  else owner s

/-- A request on screen port n, with the reply that answers it: ANNOUNCE by the binding rules, the screen port kinds by their
owners, any other kind refused (R165, 7.6). -/
def answerScreen (n : LaneIx) (r : Request) (s : State) : State × Reply :=
  match r with
  | .announce identity => announce n identity r.kind s
  | .queueReel slot label d tie reelTag =>
    underEntry n Binding.admitsShow r.kind (queueReel n slot.toNat label d.toNat tie reelTag) s
  | .stopShow => underEntry n Binding.admitsShow r.kind (stopShow n) s
  | .holdShow => underEntry n Binding.admitsShow r.kind (holdShow n) s
  | .resumeShow => underEntry n Binding.admitsShow r.kind (resumeShow n) s
  | .erased serial => underEntry n Binding.admitsErased r.kind (erasedAt n serial.toNat) s
  | .erasedAll => underEntry n Binding.admitsErased r.kind (erasedAllAt n) s
  | .laneStatus lane => underEntry n Binding.admitsQueries r.kind (laneStatus (.screen n) lane) s
  | .clockStatus => underEntry n Binding.admitsQueries r.kind (fun s => (s, .clockStatus (clockReport s))) s
  | .loadKey .. | .revokeKey .. | .purgeKey .. | .keyStatus .. | .setPort .. | .lockPolicy | .setClockParameters ..
  | .setLaneParameters .. | .seedTime .. | .reframe | .restoreLane .. | .voidHoldings .. | .statusSummary | .clearSticky ..
  | .setEventMask .. | .clearCounters => (s, refuseOnPort n r.kind .notPermitted s)

/-- A 16-bit or 8-bit field as a number, where it is present. -/
def fieldNat {w : Nat} (field : Option (BitVec w)) : Option Nat := field.map BitVec.toNat

/-- The fields of a LOAD KEY request as numbers (R53). -/
def loadFields (slot : BitVec 16) (label : Label) (nb na : BitVec 32) (a : BitVec 16) (c : Byte) (screens : ScreenMap)
    (unsealed : Option Material) : LoadFields :=
  { slot := slot.toNat, label := label, nb := nb.toNat, na := na.toNat, a := a.toNat, c := c.toNat, screens := screens,
    unsealed := unsealed }

/-- A request on the management port, with the reply that answers it: the management kinds go to their owners with no check,
any other kind is refused with the outcome alone (R165, 7.6). -/
def answerManagement (r : Request) (s : State) : State × Reply :=
  match r with
  | .laneStatus lane => laneStatus .mgmt lane s
  | .clockStatus => (s, .clockStatus (clockReport s))
  | .loadKey slot label nb na a c screens _ unsealed => loadKey (loadFields slot label nb na a c screens unsealed) r.kind s
  | .revokeKey slot => revokeKey slot.toNat r.kind s
  | .purgeKey slot => purgeKey slot.toNat r.kind s
  | .keyStatus slot => keyStatus slot.toNat r.kind s
  | .setPort port identity role classes => setPort port identity role classes r.kind s
  | .lockPolicy => lockPolicy r.kind s
  | .setClockParameters rate uc k e checkLoss failTime strict =>
    setClockParameters (fieldNat rate) (fieldNat uc) (fieldNat k) (fieldNat e) checkLoss (fieldNat failTime) strict s
  | .setLaneParameters lane wt l dt => setLaneParameters lane (fieldNat wt) (fieldNat l) (fieldNat dt) s
  | .seedTime value u => seedTime value.toNat u.toNat r.kind s
  | .reframe => reframe s
  | .restoreLane lane => restoreLane lane s
  | .voidHoldings lane => voidHoldings lane s
  | .statusSummary => statusSummary s
  | .clearSticky kinds lanes slots => clearSticky kinds lanes (slots.map BitVec.toNat) r.kind s
  | .setEventMask kinds => setEventMask kinds r.kind s
  | .clearCounters => clearCounters r.kind s
  | .announce .. | .queueReel .. | .stopShow | .holdShow | .resumeShow | .erased .. | .erasedAll =>
    (s, .portRefusal r.kind .notPermitted none)

/-- A request on a port, with the reply that answers it (R165). -/
def answer (p : PortId) (r : Request) (s : State) : State × Reply :=
  match p with
  | .mgmt => answerManagement r s
  | .screen n => answerScreen n r s

/-! ## Taking a request (R163, R171) -/

/-- The transmit list has the free places that taking needs (R163). -/
def Link.canTake (l : Link) : Bool := decide (l.tx.length + Config.takePlaces ≤ Config.txPlaces)

/-- Taking empties the buffer, and the reply's place is kept (R163). -/
def beginTaking (p : PortId) (s : State) : State :=
  { s.setLink p { s.link p with buffer := none } with kept := some p }

/-- The event of a request: its buffer emptied, its answer, and last its reply, with its tag, in the place kept (R163, R171). -/
def handle (p : PortId) (tag : Byte) (r : Request) (s : State) : State :=
  let done := answer p r (beginTaking p s)
  { done.1.place p (.reply tag done.2) with kept := none }

/-- A buffered request is taken where eight places are free (R163). -/
def takeRequest (p : PortId) (s : State) : State :=
  if s.listening p && (s.link p).canTake then
    match (s.link p).buffer with
    | some (tag, r) => handle p tag r s
    | none => s
  else s

/-- A frame otherwise good completes: into the empty buffer, or an overrun where a frame waits there (R159, R160). -/
def enterBuffer (p : PortId) (tag : Byte) (r : Request) (s : State) : State :=
  match (s.link p).buffer with
  | none => s.setLink p { s.link p with buffer := some (tag, r) }
  | some _ => frameError p s

/-- The queue's next command is the taking of a request of port p (log 2). -/
def takingNext (p : PortId) (s : State) : Bool :=
  match s.pending with
  | .requestTaken q :: _ => decide (q = p)
  | _ => false

/-- A command has filled port p's buffer or freed a place of its list: a request that can be taken is taken at once (R163), by
this command, or by the REQUEST TAKEN that the queue has next (log 2). -/
def takeDue (p : PortId) (s : State) : State := if takingNext p s then s else takeRequest p s

/-- The good frame of a request arrives on a port: it enters the buffer and is taken at once where eight places are free, and
otherwise waits or overruns (R159, R160, R163). A request already due there is taken before it. Log 2. -/
def arrive (p : PortId) (tag : Byte) (r : Request) (s : State) : State :=
  if s.listening p then takeRequest p (enterBuffer p tag r (takeRequest p s)) else s

/-! ## Receiving characters (R159, R160) -/

/-- A receiver written. -/
def State.setReceiver (s : State) (p : PortId) (rx : Receiver) : State := s.setLink p { s.link p with receiver := rx }

/-- The characters after the sync are a complete frame: length, kind, tag, the body of that length, and two check bytes. -/
def frameEnds (chars : List Byte) : Bool :=
  match chars with
  | [] => false
  | length :: _ => decide (chars.length = length.toNat + 5)

/-- The request that the characters of a complete frame carry with its tag; none where the check, the kind or the body length is
bad (R159). -/
def frameRequest (chars : List Byte) (unsealed : Option Material) : Option (Byte × Request) :=
  match chars with
  | length :: kind :: tag :: rest =>
    let body := rest.take length.toNat
    let check := rest.drop length.toNat
    if check = beBytes 2 (crc16 (length :: kind :: tag :: body)).toNat then
      (decodeRequest kind body unsealed).map (fun r => (tag, r))
    else none
  | _ => none

/-- A complete frame is judged, and what it leaves in the buffer is taken as soon as it can be (R159, R163). `last`: its check is
the last character of the command, so that the taking may be left to the queue's next command. A request already due is
taken first. -/
def judgeFrame (p : PortId) (last : Bool) (chars : List Byte) (unsealed : Option Material) (s : State) : State :=
  let s1 := takeRequest p s
  match frameRequest chars unsealed with
  | some (tag, r) =>
    let s2 := enterBuffer p tag r s1
    if last then takeDue p s2 else takeRequest p s2
  | none => frameError p s1

/-- A character read while hunting (R159). -/
def huntWith (p : PortId) (c : Byte) (s : State) : State :=
  s.setReceiver p (if c = Config.sync then .assembling [] else .hunting)

/-- A character arrives at a receiver (R159); `last` as in `judgeFrame`. -/
def receive (p : PortId) (last : Bool) (unsealed : Option Material) (c : Byte) (s : State) : State :=
  match (s.link p).receiver with
  | .hunting => huntWith p c s
  | .assembling [] =>
    if Config.maxBody < c.toNat then frameError p (s.setReceiver p .hunting) else s.setReceiver p (.assembling [c])
  | .assembling chars =>
    if frameEnds (chars ++ [c]) then judgeFrame p last (chars ++ [c]) unsealed (s.setReceiver p .hunting)
    else s.setReceiver p (.assembling (chars ++ [c]))

/-- Characters arrive one after another without a gap over 2 ms; `ends`: no further character of the command follows them
(R159, log 23). -/
def receiveRun (p : PortId) (ends : Bool) (unsealed : Option Material) : List Byte → State → State
  | [], s => s
  | c :: rest, s => receiveRun p ends unsealed rest (receive p (ends && rest.isEmpty) unsealed c s)

/-- Characters arrive on a port, the whole of a command (R159, log 23). -/
def receiveAll (p : PortId) (unsealed : Option Material) (chars : List Byte) (s : State) : State :=
  if s.listening p then receiveRun p true unsealed chars s else s

/-- A gap over 2 ms inside a frame ends the frame as a frame error; while hunting it is no fault (R160). -/
def gapEnds (p : PortId) (s : State) : State :=
  match (s.link p).receiver with
  | .hunting => s
  | .assembling _ => frameError p (s.setReceiver p .hunting)

/-- Characters, a gap, and the character that ends it, which is read as hunting reads it where the gap is over 2 ms (R160). -/
def receiveGap (p : PortId) (before : List Byte) (gapMicros : Nat) (c : Byte) (unsealed : Option Material) (s : State) : State :=
  if s.listening p then
    let s1 := receiveRun p false unsealed before s
    if Config.maxGapMicros < gapMicros then huntWith p c (gapEnds p s1) else receive p true unsealed c s1
  else s

/-! ## Sending (R164) -/

/-- The last character of the first frame of a port's list has been sent: the frame leaves (R164), and a request that waits is
taken where that makes its eight places free (R163). -/
def sendFrame (p : PortId) (s : State) : State :=
  if s.listening p then
    match (s.link p).tx with
    | [] => s
    | _ :: rest => takeDue p (s.setLink p { s.link p with tx := rest })
  else s

end Sys2Proof.Machine
end

