-- ==== Sys2Proof/Machine/EventCommands.lean ====
section
/-! DEFINITION. The meanings of the Event Unit's commands (chapter 8). -/

namespace Sys2Proof.Machine

/-- SET EVENT MASK arrives on port p as a good frame (R175; R163). -/
def execSetEventMask (p : PortId) (tag : Byte) (kinds : KindMap) (s : State) : Answered :=
  .next (arrive p tag (.setEventMask kinds) s)

/-- STATUS SUMMARY arrives on port p as a good frame (R176; R163). -/
def execStatusSummary (p : PortId) (tag : Byte) (s : State) : Answered :=
  .next (arrive p tag .statusSummary s)

/-- CLEAR STICKY arrives on port p as a good frame (R177; R163). -/
def execClearSticky (p : PortId) (tag : Byte) (kinds : KindMap) (lanes : ScreenMap) (slots : List (BitVec 16))
    (s : State) : Answered :=
  .next (arrive p tag (.clearSticky kinds lanes slots) s)

/-- CLEAR COUNTERS arrives on port p as a good frame (R178; R163). -/
def execClearCounters (p : PortId) (tag : Byte) (s : State) : Answered :=
  .next (arrive p tag .clearCounters s)

end Sys2Proof.Machine
end

