-- ==== Sys2Proof/Machine/KeyCommands.lean ====
section
/-! DEFINITION. The meanings of the Key Table's commands (chapter 3). -/

namespace Sys2Proof.Machine

/-- LOAD KEY arrives on port p as a good frame (R53; R163). -/
def execLoadKey (p : PortId) (tag : Byte) (slot : BitVec 16) (label : Label) (nb : BitVec 32) (na : BitVec 32)
    (a : BitVec 16) (c : Byte) (screens : ScreenMap) (sealedMaterial : SealedMaterial) (unsealed : Option Material)
    (s : State) : Answered :=
  .next (arrive p tag (.loadKey slot label nb na a c screens sealedMaterial unsealed) s)

/-- REVOKE KEY arrives on port p as a good frame (R62; R163). -/
def execRevokeKey (p : PortId) (tag : Byte) (slot : BitVec 16) (s : State) : Answered :=
  .next (arrive p tag (.revokeKey slot) s)

/-- PURGE KEY arrives on port p as a good frame (R65; R163). -/
def execPurgeKey (p : PortId) (tag : Byte) (slot : BitVec 16) (s : State) : Answered :=
  .next (arrive p tag (.purgeKey slot) s)

/-- KEY STATUS arrives on port p as a good frame (R70; R163). -/
def execKeyStatus (p : PortId) (tag : Byte) (slot : BitVec 16) (s : State) : Answered :=
  .next (arrive p tag (.keyStatus slot) s)

end Sys2Proof.Machine
end

