-- ==== Sys2Proof/Machine/LaneCommands.lean ====
section
/-! DEFINITION. The meanings of the Lane Controller's commands (chapter 4). -/

namespace Sys2Proof.Machine

/-- QUEUE REEL arrives on port p as a good frame (R80; R163). -/
def execQueueReel (p : PortId) (tag : Byte) (slot : BitVec 16) (label : Label) (d : BitVec 16) (tie : Bool)
    (reelTag : ReelTag) (s : State) : Answered :=
  .next (arrive p tag (.queueReel slot label d tie reelTag) s)

/-- BOUNDARY of lane n (R84, R85). -/
def execBoundary (n : LaneIx) (s : State) : Answered :=
  .next (takeBoundary n s)

/-- STOP SHOW arrives on port p as a good frame (R90; R163). -/
def execStopShow (p : PortId) (tag : Byte) (s : State) : Answered :=
  .next (arrive p tag .stopShow s)

/-- HOLD SHOW arrives on port p as a good frame (R91; R163). -/
def execHoldShow (p : PortId) (tag : Byte) (s : State) : Answered :=
  .next (arrive p tag .holdShow s)

/-- RESUME SHOW arrives on port p as a good frame (R92; R163). -/
def execResumeShow (p : PortId) (tag : Byte) (s : State) : Answered :=
  .next (arrive p tag .resumeShow s)

/-- SITE HOLD LINE CHANGE (R94). -/
def execSiteHoldLineChange (asserted : Bool) (s : State) : Answered :=
  .next (changeHoldLine asserted s)

/-- SITE HOLD ASSERTION (R94, R95). -/
def execSiteHoldAssertion (ms : Nat) (s : State) : Answered :=
  .next (takeAssertion ms s)

/-- SITE HOLD RELEASE (R94, R96). -/
def execSiteHoldRelease (ms : Nat) (s : State) : Answered :=
  .next (takeRelease ms s)

/-- HOLD LIMIT of lane n (R97). -/
def execHoldLimit (n : LaneIx) (s : State) : Answered :=
  .next (takeHoldLimit n s)

/-- SET LANE PARAMETERS arrives on port p as a good frame (R105; R163). -/
def execSetLaneParameters (p : PortId) (tag : Byte) (lane : Byte) (wt : Option Byte) (l : Option (BitVec 16))
    (dt : Option Byte) (s : State) : Answered :=
  .next (arrive p tag (.setLaneParameters lane wt l dt) s)

/-- LANE STATUS arrives on port p as a good frame (R107; R163). -/
def execLaneStatus (p : PortId) (tag : Byte) (lane : Byte) (s : State) : Answered :=
  .next (arrive p tag (.laneStatus lane) s)

end Sys2Proof.Machine
end

