-- ==== Sys2Proof/Machine/LineCommands.lean ====
section
/-! DEFINITION. The meanings of the reference line's commands (chapter 1). -/

namespace Sys2Proof.Machine

/-- SILENCE ENTRY (R2). -/
def execSilenceEntry (s : State) : Answered :=
  .next (silenceEntry s)

/-- CLEAN WINDOW (R3). -/
def execCleanWindow (s : State) : Answered :=
  .next (cleanWindow s)

/-- CANDIDATE POSITION (R6). -/
def execCandidatePosition (s : State) : Answered :=
  .next (candidatePosition s)

/-- MIMIC (R7, R8). -/
def execMimic (s : State) : Answered :=
  .next (mimic s)

/-- CONFIRM TEST (R7). -/
def execConfirmTest (s : State) : Answered :=
  .next (confirmTest s)

/-- STRICT CONFIRM TEST (R8). -/
def execStrictConfirmTest (lanesFirst : Bool) (s : State) : Answered :=
  .next (strictConfirmTest lanesFirst s)

/-- SUPERFRAME START (R10). -/
def execSuperframeStart (apart : List TickPart) (s : State) : Answered :=
  .next (superframeStart apart s)

/-- ALIGNMENT TEST (R11). -/
def execAlignmentTest (s : State) : Answered :=
  .next (alignmentTest s)

/-- SUPERFRAME END (R12, R15). -/
def execSuperframeEnd (lanesFirst : Bool) (s : State) : Answered :=
  .next (superframeEnd lanesFirst s)

/-- REFRAME arrives on port p as a good frame (R16; R163). -/
def execReframe (p : PortId) (tag : Byte) (s : State) : Answered :=
  .next (arrive p tag .reframe s)

/-- REFERENCE FAILED (R19). -/
def execReferenceFailed (s : State) : Answered :=
  .next (takeReferenceFailed s)

/-- BIT PERIOD END (R1). -/
def execBitPeriodEnd (s : State) : Answered :=
  .next (bitPeriodEnd s)

/-- REFERENCE LINE TRANSITION (R1). -/
def execReferenceLineTransition (ns : Nat) (s : State) : Answered :=
  .next (lineTransition ns s)

end Sys2Proof.Machine
end

