-- ==== Sys2Proof/Machine/PortCommands.lean ====
section
/-! DEFINITION. The meanings of the Port Controller's commands (chapter 7). -/

namespace Sys2Proof.Machine

/-- FRAME COMPLETE (R159): the characters arrive, the last completing a frame. -/
def execFrameComplete (p : PortId) (chars : List Byte) (unsealed : Option Material) (s : State) : Answered :=
  .next (receiveAll p unsealed chars s)

/-- GAP ERROR (R160). -/
def execGapError (p : PortId) (before : List Byte) (gapMicros : Nat) (char : Byte) (unsealed : Option Material)
    (s : State) : Answered :=
  .next (receiveGap p before gapMicros char unsealed s)

/-- REQUEST TAKEN (R163). -/
def execRequestTaken (p : PortId) (s : State) : Answered :=
  .next (takeRequest p s)

/-- FRAME SENT (R164). -/
def execFrameSent (p : PortId) (s : State) : Answered :=
  .next (sendFrame p s)

/-- ANNOUNCE arrives on port p as a good frame (R167, R168; R163). -/
def execAnnounce (p : PortId) (tag : Byte) (identity : Identity) (s : State) : Answered :=
  .next (arrive p tag (.announce identity) s)

/-- SET PORT arrives on port p as a good frame (R169; R163). -/
def execSetPort (p : PortId) (tag : Byte) (port : Byte) (identity : Option Identity) (role : Byte) (classes : Byte)
    (s : State) : Answered :=
  .next (arrive p tag (.setPort port identity role classes) s)

/-- LOCK POLICY arrives on port p as a good frame (R170; R163). -/
def execLockPolicy (p : PortId) (tag : Byte) (s : State) : Answered :=
  .next (arrive p tag .lockPolicy s)

/-- LENGTH ABOVE 96 (R159, R160): the characters arrive, the last a length above 96. -/
def execLengthAbove96 (p : PortId) (chars : List Byte) (unsealed : Option Material) (s : State) : Answered :=
  .next (receiveAll p unsealed chars s)

end Sys2Proof.Machine
end

