-- ==== Sys2Proof/Machine/ReleaseCommands.lean ====
section
/-! DEFINITION. The meanings of the Release Unit's commands (chapter 6). -/

namespace Sys2Proof.Machine

/-- WITHDRAWAL TIMEOUT of lane n (R137). -/
def execWithdrawalTimeout (n : LaneIx) (s : State) : Answered :=
  .next (takeWithdrawalTimeout n s)

/-- ERASED arrives on port p as a good frame (R138; R163). -/
def execErased (p : PortId) (tag : Byte) (serial : BitVec 16) (s : State) : Answered :=
  .next (arrive p tag (.erased serial) s)

/-- ERASED ALL arrives on port p as a good frame (R141; R163). -/
def execErasedAll (p : PortId) (tag : Byte) (s : State) : Answered :=
  .next (arrive p tag .erasedAll s)

/-- RESTORE LANE arrives on port p as a good frame (R146; R163). -/
def execRestoreLane (p : PortId) (tag : Byte) (lane : Byte) (s : State) : Answered :=
  .next (arrive p tag (.restoreLane lane) s)

/-- CLEARING TIMEOUT of lane n (R148). -/
def execClearingTimeout (n : LaneIx) (s : State) : Answered :=
  .next (takeClearingTimeout n s)

/-- VOID HOLDINGS arrives on port p as a good frame (R150; R163). -/
def execVoidHoldings (p : PortId) (tag : Byte) (lane : Byte) (s : State) : Answered :=
  .next (arrive p tag (.voidHoldings lane) s)

end Sys2Proof.Machine
end

