-- ==== Sys2Proof/Machine/Power.lean ====
section
/-! DEFINITION. Supplies and start-up: main reset, main power failure and return, the validity marker, the reset input, the straps (chapter 9; R22, R44 to R46, R71, R72, R108, R152, R153, R173, R180). -/

namespace Sys2Proof.Machine

/-! ## Main reset (R183) -/

/-- Every main-supplied block at its values after main reset (R22, R108, R152, R173, R180); the Retained Domain as it was. -/
def restartBlocks (s : State) : State :=
  { s with
    framer := .afterReset s.clock.params
    lanes := sixteen .afterReset
    releases := s.releases.map Release.afterReset
    ports := sixteen .afterReset
    mgmt := .afterReset
    policyLock := false
    siteHold := false
    siteStableMs := 0
    mask := BitVec.allOnes 17
    sticky := 0#17
    kept := none }

/-- Main reset (R183): the Site Clock leaves ASSURED without an event and the Key Table evaluates on its notice, with every
main-supplied block in reset (R45, R71). -/
def mainReset (s : State) : State :=
  restartBlocks (clockLeavesMain false { s with supply := { s.supply with inReset := true } })

/-- Main reset ends (R183, step 3; R184): the straps are read, the blocks begin work, and the Event Unit takes a BACKUP LOST that
is owed (R180). -/
def endReset (fit1 fit0 : Bool) (s : State) : State :=
  let s1 := { s with supply := { s.supply with
    inReset := false, fitted := fittedCount fit1 fit0, backupLostOwed := false } }
  if s.supply.backupLostOwed then s1.raise .backupLost else s1

/-! ## The supplies (R44, R181, R182) -/

/-- Main fails (R44, R181): the clock leaves ASSURED, and the Key Table takes its notice; what main supplied is held at its values
after main reset while main is absent (log 21). The regression episode flag stays until the next main reset. What has come due
before the failure is done first, a start mark in ASSURED among it, so that its tick is not lost: DESIGN CHOICE, log 32. -/
def failMain (s : State) : State :=
  if s.supply.mainOn then
    let s1 := settleDue s
    restartBlocks (clockLeavesMain s1.clock.regress { s1 with supply := { s1.supply with
      mainOn := false, inReset := false, backupLostOwed := false } })
  else s

/-- The Retained Domain's supply falls below the holding level: the validity marker becomes bad. While main is present it does not
fall (R182). -/
def spoilMarker (s : State) : State :=
  if s.supply.mainOn then s else { s with supply := { s.supply with markerGood := false } }

/-- The Retained Domain cleared as a whole (R46, R72, R153, R182), and the marker made good; BACKUP LOST is owed. -/
def clearRetained (s : State) : State :=
  { s with
    keys := []
    releases := s.releases.map (fun r => { r with holdings := [] })
    clock := .cleared
    supply := { s.supply with markerGood := true, backupLostOwed := true } }

/-- The marker is read at a main power-up, and the clearing made where it is bad (R182, R183, step 1). -/
def readMarker (s : State) : State := if s.supply.markerGood then s else clearRetained s

/-- Main power returns (R183): the marker, then main reset, which ends at once unless the reset input is asserted. -/
def returnMain (fit1 fit0 : Bool) (s : State) : State :=
  if s.supply.mainOn then s
  else
    let s1 := mainReset (readMarker { s with supply := { s.supply with mainOn := true } })
    if s1.supply.resetPin then s1 else endReset fit1 fit0 s1

/-! ## The reset input (R184) -/

/-- The reset input is asserted: main reset, where main is present. A further assertion has no effect. What has come due before
the assertion is done first: DESIGN CHOICE, log 32. -/
def assertReset (s : State) : State :=
  if s.supply.resetPin then s
  else
    let s1 := settleDue s
    let s2 := { s1 with supply := { s1.supply with resetPin := true } }
    if s.supply.mainOn then mainReset s2 else s2

/-- The reset input is released: main reset ends, where main is present. -/
def releaseReset (fit1 fit0 : Bool) (s : State) : State :=
  if s.supply.resetPin then
    let s1 := { s with supply := { s.supply with resetPin := false } }
    if s.supply.mainOn && s.supply.inReset then endReset fit1 fit0 s1 else s1
  else s

end Sys2Proof.Machine
end

