-- ==== Sys2Proof/Machine/SupplyCommands.lean ====
section
/-! DEFINITION. The meanings of the supplies' and the reset input's commands (chapter 9). -/

namespace Sys2Proof.Machine

/-- MAIN POWER FAIL (R44, R181). -/
def execMainPowerFail (s : State) : Answered :=
  .next (failMain s)

/-- VALIDITY MARKER BAD (R182). -/
def execValidityMarkerBad (s : State) : Answered :=
  .next (spoilMarker s)

/-- MAIN POWER UP (R183). -/
def execMainPowerUp (fit1 : Bool) (fit0 : Bool) (s : State) : Answered :=
  .next (returnMain fit1 fit0 s)

/-- RESET ASSERT (R184). -/
def execResetAssert (s : State) : Answered :=
  .next (assertReset s)

/-- RESET RELEASE (R184, R185). -/
def execResetRelease (fit1 : Bool) (fit0 : Bool) (s : State) : Answered :=
  .next (releaseReset fit1 fit0 s)

end Sys2Proof.Machine
end

