-- ==== Sys2Proof/Machine/TimeCommands.lean ====
section
/-! DEFINITION. The meanings of the Site Clock's commands (chapter 2). -/

namespace Sys2Proof.Machine

/-- ELAPSED TICK of the oscillator (R23, R24). -/
def execElapsedTick (apart : List TickPart) (s : State) : Answered :=
  .next (oscillatorTick apart s)

/-- CEILING PASSED (R37). -/
def execCeilingPassed (apart : List TickPart) (s : State) : Answered :=
  .next (ceilingTick apart s)

/-- SEED TIME arrives on port p as a good frame (R40; R163). -/
def execSeedTime (p : PortId) (tag : Byte) (value : BitVec 32) (uncertainty : BitVec 16) (s : State) : Answered :=
  .next (arrive p tag (.seedTime value uncertainty) s)

/-- SET CLOCK PARAMETERS arrives on port p as a good frame (R41; R163). -/
def execSetClockParameters (p : PortId) (tag : Byte) (r : Option (BitVec 16)) (uc : Option (BitVec 16))
    (k : Option Byte) (e : Option Byte) (checkLoss : Option Bool) (failTime : Option Byte) (strict : Option Bool)
    (s : State) : Answered :=
  .next (arrive p tag (.setClockParameters r uc k e checkLoss failTime strict) s)

/-- CLOCK STATUS arrives on port p as a good frame (R43; R163). -/
def execClockStatus (p : PortId) (tag : Byte) (s : State) : Answered :=
  .next (arrive p tag .clockStatus s)

end Sys2Proof.Machine
end

