-- ==== Sys2Proof/Machine/Dispatch.lean ====
section
/-! DEFINITION. The dispatch: one arm for each command, each a direct call of its meaning. -/

namespace Sys2Proof.Machine

/-- The effect of a command on everything but the queue. -/
def exec (i : Instr) (s : State) : Host.Outcome State Fault Refusal :=
  match i with
  | .silenceEntry => Sys2Proof.Machine.execSilenceEntry s
  | .cleanWindow => Sys2Proof.Machine.execCleanWindow s
  | .candidatePosition => Sys2Proof.Machine.execCandidatePosition s
  | .mimic => Sys2Proof.Machine.execMimic s
  | .confirmTest => Sys2Proof.Machine.execConfirmTest s
  | .strictConfirmTest lanesFirst => Sys2Proof.Machine.execStrictConfirmTest lanesFirst s
  | .superframeStart apart => Sys2Proof.Machine.execSuperframeStart apart s
  | .alignmentTest => Sys2Proof.Machine.execAlignmentTest s
  | .superframeEnd lanesFirst => Sys2Proof.Machine.execSuperframeEnd lanesFirst s
  | .reframe p tag => Sys2Proof.Machine.execReframe p tag s
  | .referenceFailed => Sys2Proof.Machine.execReferenceFailed s
  | .elapsedTick apart => Sys2Proof.Machine.execElapsedTick apart s
  | .ceilingPassed apart => Sys2Proof.Machine.execCeilingPassed apart s
  | .seedTime p tag value uncertainty => Sys2Proof.Machine.execSeedTime p tag value uncertainty s
  | .setClockParameters p tag r uc k e checkLoss failTime strict => Sys2Proof.Machine.execSetClockParameters p tag r uc k e checkLoss failTime strict s
  | .clockStatus p tag => Sys2Proof.Machine.execClockStatus p tag s
  | .mainPowerFail => Sys2Proof.Machine.execMainPowerFail s
  | .validityMarkerBad => Sys2Proof.Machine.execValidityMarkerBad s
  | .mainPowerUp fit1 fit0 => Sys2Proof.Machine.execMainPowerUp fit1 fit0 s
  | .resetAssert => Sys2Proof.Machine.execResetAssert s
  | .resetRelease fit1 fit0 => Sys2Proof.Machine.execResetRelease fit1 fit0 s
  | .loadKey p tag slot label nb na a c screens sealedMaterial unsealed => Sys2Proof.Machine.execLoadKey p tag slot label nb na a c screens sealedMaterial unsealed s
  | .revokeKey p tag slot => Sys2Proof.Machine.execRevokeKey p tag slot s
  | .purgeKey p tag slot => Sys2Proof.Machine.execPurgeKey p tag slot s
  | .keyStatus p tag slot => Sys2Proof.Machine.execKeyStatus p tag slot s
  | .queueReel p tag slot label d tie reelTag => Sys2Proof.Machine.execQueueReel p tag slot label d tie reelTag s
  | .boundary n => Sys2Proof.Machine.execBoundary n s
  | .stopShow p tag => Sys2Proof.Machine.execStopShow p tag s
  | .holdShow p tag => Sys2Proof.Machine.execHoldShow p tag s
  | .resumeShow p tag => Sys2Proof.Machine.execResumeShow p tag s
  | .siteHoldLineChange asserted => Sys2Proof.Machine.execSiteHoldLineChange asserted s
  | .siteHoldAssertion ms => Sys2Proof.Machine.execSiteHoldAssertion ms s
  | .siteHoldRelease ms => Sys2Proof.Machine.execSiteHoldRelease ms s
  | .holdLimit n => Sys2Proof.Machine.execHoldLimit n s
  | .setLaneParameters p tag lane wt l dt => Sys2Proof.Machine.execSetLaneParameters p tag lane wt l dt s
  | .laneStatus p tag lane => Sys2Proof.Machine.execLaneStatus p tag lane s
  | .withdrawalTimeout n => Sys2Proof.Machine.execWithdrawalTimeout n s
  | .erased p tag serial => Sys2Proof.Machine.execErased p tag serial s
  | .erasedAll p tag => Sys2Proof.Machine.execErasedAll p tag s
  | .restoreLane p tag lane => Sys2Proof.Machine.execRestoreLane p tag lane s
  | .clearingTimeout n => Sys2Proof.Machine.execClearingTimeout n s
  | .voidHoldings p tag lane => Sys2Proof.Machine.execVoidHoldings p tag lane s
  | .frameComplete p chars unsealed => Sys2Proof.Machine.execFrameComplete p chars unsealed s
  | .gapError p before gapMicros char unsealed => Sys2Proof.Machine.execGapError p before gapMicros char unsealed s
  | .requestTaken p => Sys2Proof.Machine.execRequestTaken p s
  | .frameSent p => Sys2Proof.Machine.execFrameSent p s
  | .announce p tag identity => Sys2Proof.Machine.execAnnounce p tag identity s
  | .setPort p tag port identity role classes => Sys2Proof.Machine.execSetPort p tag port identity role classes s
  | .lockPolicy p tag => Sys2Proof.Machine.execLockPolicy p tag s
  | .setEventMask p tag kinds => Sys2Proof.Machine.execSetEventMask p tag kinds s
  | .statusSummary p tag => Sys2Proof.Machine.execStatusSummary p tag s
  | .clearSticky p tag kinds lanes slots => Sys2Proof.Machine.execClearSticky p tag kinds lanes slots s
  | .clearCounters p tag => Sys2Proof.Machine.execClearCounters p tag s
  | .bitPeriodEnd => Sys2Proof.Machine.execBitPeriodEnd s
  | .referenceLineTransition ns => Sys2Proof.Machine.execReferenceLineTransition ns s
  | .lengthAbove96 p chars unsealed => Sys2Proof.Machine.execLengthAbove96 p chars unsealed s

end Sys2Proof.Machine
end

