-- ==== Sys2Proof/Machine/Step.lean ====
section
/-! DEFINITION. The step: the command at the front of the queue, or one oscillator cycle where the queue is empty. -/

namespace Sys2Proof.Machine

/-- The part takes the command at the front of its queue, on the state with the queue's rest. On an empty queue one cycle of the
retained oscillator passes (R23): DESIGN CHOICE, log 6. -/
def step (s : State) : Host.Outcome State Fault Refusal :=
  match s.pending with
  | [] => .next (oscillatorCycle s)
  | c :: rest => exec c { s with pending := rest }

/-- The command a word of the table spells put at the front of the queue; no word of this table spells one. -/
def State.withFetchWord (s : State) (nbits w : Nat) : State :=
  match decodeTableWord nbits w with
  | none => s
  | some c => { s with pending := c :: s.pending }

end Sys2Proof.Machine
end

