-- ==== Sys2Proof/Machine/Layout.lean ====
section
/-! DEFINITION. The bytes of the frames the part sends: codes, reply and notice bodies, check (chapter 10). -/

namespace Sys2Proof.Machine

/-! ## Codes (R189; states and causes by their place in the owner's list) -/

/-- The code of an outcome or reason (R189). -/
def Answer.code : Answer → Nat
  | .accepted => 0 | .replaced => 1 | .notBound => 2 | .notPermitted => 3 | .badField => 4 | .wrongState => 5 | .locked => 6
  | .slotOccupied => 7 | .slotEmpty => 8 | .duplicateLabel => 9 | .windowInvalid => 10 | .windowPassed => 11
  | .sealFailed => 12 | .held => 13 | .laneUnavailable => 14 | .noKey => 15 | .keyChanged => 16 | .revoked => 17
  | .expired => 18 | .notAuthorized => 19 | .timeUnassured => 20 | .notYet => 21 | .tooLate => 22 | .runsPast => 23
  | .oversubscribed => 24 | .linkDegraded => 25 | .unknownGrant => 26

/-- The code of a SHOW ENDED reason (R189). -/
def ShowReason.code : ShowReason → Nat
  | .complete => 0x40 | .stopped => 0x41 | .holdLimit => 0x42 | .screenErased => 0x43 | .quarantine => 0x44
  | .refused reason => reason.code

/-- The code of a BUFFER FREE reason (R189). -/
def FreeReason.code : FreeReason → Nat
  | .loaded => 0x45 | .revoked => 17

/-- The code of a re-check outcome: PASS 0, NOT RUN 0xFF, or the refusal reason (R189). -/
def Recheck.code : Recheck → Nat
  | .notRun => 0xFF
  | .ran none => 0
  | .ran (some reason) => reason.code

/-- The place of a framer state in the list of 1.3. -/
def FramerState.code : FramerState → Nat
  | .silent => 0 | .search => 1 | .confirm => 2 | .aligned => 3

/-- The place of a time state in the table of R25. -/
def TimeState.code : TimeState → Nat
  | .noTime => 0 | .assured => 1 | .holdover => 2 | .unassured => 3

/-- The place of a cause in the list of R25. -/
def TimeCause.code : TimeCause → Nat
  | .confirmed => 0 | .silence => 1 | .errored => 2 | .check => 3 | .reframe => 4 | .misses => 5 | .ceiling => 6
  | .parameter => 7 | .seed => 8 | .power => 9

/-- The place of a slot's state in the table of R48, whose first is EMPTY. -/
def keyStateCode : Option KeyState → Nat
  | none => 0 | some .waiting => 1 | some .opened => 2 | some .closing => 3 | some .expired => 4 | some .revoked => 5

/-- The place of a KEY STATE cause in the table of R174. -/
def KeyCause.code : KeyCause → Nat
  | .loaded => 0 | .window => 1 | .revoked => 2 | .purged => 3

/-- The place of a lane state in the table of R73. -/
def LaneState.code : LaneState → Nat
  | .offline => 0 | .clearing => 1 | .idle => 2 | .playing => 3 | .held => 4 | .quarantine => 5

/-- The place of a quarantine cause in the table of R144. -/
def QuarantineCause.code : QuarantineCause → Nat
  | .listFull => 0 | .withdrawalTimeout => 1 | .clearingTimeout => 2 | .identityChange => 3

/-- The place of a cause of PORT UNBOUND in the table of R174. -/
def UnboundCause.code : UnboundCause → Nat
  | .identityChange => 0 | .setPort => 1

/-- The code of a grant match, which no rule lists: OUTSTANDING (R138) 0, then ACTIVE (R139) 1. DESIGN CHOICE, log 31. -/
def GrantMatch.code : GrantMatch → Nat
  | .outstanding => 0 | .active => 1

/-- The place of a lamp pattern in the table of R179. -/
def Lamp.code : Lamp → Nat
  | .off => 0 | .fast => 1 | .slow => 2 | .steady => 3

/-! ## Fields (10.3) -/

/-- An item preceded by its presence byte (10.3). -/
def optItem (item : Option (List Byte)) : List Byte :=
  match item with
  | none => [0]
  | some bytes => 1 :: bytes

/-- An optional number in an item of `w` bytes with its presence byte. -/
def optNum (w : Nat) (n : Option Nat) : List Byte := optItem (n.map (beBytes w))

/-- A fixed field of `w` bytes whose number may be absent: zeros then (log 15). -/
def fixedNum (w : Nat) (n : Option Nat) : List Byte := beBytes w (n.getD 0)

/-- Exactly `w` bytes: zeros after those given (10.3, "Unused places and absent reels are zero-filled"). -/
def padTo (w : Nat) (bytes : List Byte) : List Byte := (bytes ++ List.replicate w 0).take w

/-- A count byte and two bytes for each number: a set of slots or of serials (10.3). -/
def numberSet (ns : List Nat) : List Byte := beBytes 1 ns.length ++ ns.flatMap (beBytes 2)

/-- A count byte and a fixed number of two-byte places. -/
def countedPlaces (places : Nat) (ns : List Nat) : List Byte :=
  beBytes 1 ns.length ++ padTo (2 * places) (ns.flatMap (beBytes 2))

/-- A difference of site times in two's complement (10.3). -/
def deltaBytes (d : Int) : List Byte := beBytes 4 (BitVec.ofInt 32 d).toNat

/-- A map of indices, two bytes (R188). -/
def mapBytes (m : ScreenMap) : List Byte := beBytes 2 m.toNat

/-- A map of event kinds, three bytes as in the requests (R188; log 16). -/
def kindBytes (m : BitVec 17) : List Byte := beBytes 3 m.toNat

/-- The byte `i` of the 64-byte map of marked keys: slot s is bit 7 − (s mod 8) of byte floor(s / 8) (10.3). -/
def markedByte (slots : List Nat) (i : Nat) : Byte :=
  (List.range 8).foldl (fun b k => if slots.contains (8 * i + k) then b ||| (1#8 <<< (7 - k)) else b) 0#8

/-- The marked keys as a two-byte count and a 64-byte map (10.3). -/
def markedBytes (slots : List Nat) : List Byte := beBytes 2 slots.length ++ (List.range 64).map (markedByte slots)

/-- One flag, a byte (10.3). -/
def flagBytes (b : Bool) : List Byte := [flagByte b]

/-- A byte from its bits, bit 0 first. -/
def bitsByte : List Bool → Nat
  | [] => 0
  | b :: rest => (if b then 1 else 0) + 2 * bitsByte rest

/-! ## Parts of replies -/

/-- A port state, three bytes wherever a reply carries one (10.3). -/
def PortView.bytes (v : PortView) : List Byte := beBytes 1 v.state ++ beBytes 1 v.role ++ beBytes 1 v.count

/-- The classes byte (R188). -/
def Binding.classes (e : Binding) : Nat := bitsByte [e.showControl, e.queries]

/-- A binding entry as a reply carries it: an optional identity, role, classes (log 28). -/
def Binding.bytes (e : Binding) : List Byte :=
  optItem (e.identity.map (fun i => beBytes 8 i.toNat)) ++ beBytes 1 e.role.code ++ beBytes 1 e.classes

/-- The seven clock parameters (R41). -/
def ClockParams.bytes (p : ClockParams) : List Byte :=
  beBytes 2 p.r ++ beBytes 2 p.uc ++ beBytes 1 p.k ++ beBytes 1 p.e ++ flagBytes p.checkLoss ++ beBytes 1 p.failTime
    ++ flagBytes p.strict

/-- The six framer counters (R20). -/
def FramerCounters.bytes (c : FramerCounters) : List Byte :=
  [c.errored, c.checkErrors, c.mimics, c.losses, c.silences, c.changes].flatMap (beBytes 2)

/-- A step record: the difference, the excess flag, T (R43). -/
def StepRecord.bytes (r : StepRecord) : List Byte := deltaBytes r.delta ++ flagBytes r.excess ++ beBytes 4 r.t

/-- The items of CLOCK STATUS in the order of R43 and R21. -/
def ClockReport.bytes (c : ClockReport) : List Byte :=
  beBytes 1 c.time.code ++ optNum 4 c.t ++ optNum 2 c.u ++ optNum 4 c.uMs ++ beBytes 4 c.floor ++ optNum 4 c.h
    ++ beBytes 1 c.miss ++ optItem (c.lastStep.map StepRecord.bytes) ++ flagBytes c.regress ++ c.params.bytes
    ++ beBytes 1 c.framer.code ++ flagBytes c.alarm ++ optNum 1 c.position ++ optNum 1 c.source ++ optNum 1 c.quality
    ++ c.counters.bytes ++ optItem c.captured

/-- The items of KEY STATUS for an occupied slot after its number, in the order of R70. -/
def KeyReport.bytes (k : KeyReport) : List Byte :=
  beBytes 1 (keyStateCode (some k.state)) ++ beBytes 8 k.label.toNat ++ beBytes 4 k.nb ++ beBytes 4 k.na ++ beBytes 2 k.a
    ++ mapBytes k.screens ++ beBytes 1 k.c ++ beBytes 2 k.openings ++ flagBytes k.mark ++ optNum 4 k.expiredAt
    ++ optNum 4 k.revokedAt ++ mapBytes k.holders

/-- The check report's part of a QUEUE REEL reply: variant, presence, T, U, holder count, C (10.3); absent numbers are zeros
(log 15). -/
def reportBytes : Option CheckReport → List Byte
  | none => [0xFF, 0] ++ List.replicate 8 0
  | some r =>
    [0, BitVec.ofNat 8 (bitsByte [r.t.isSome, r.holders.isSome])] ++ fixedNum 4 r.t ++ fixedNum 2 r.u
      ++ fixedNum 1 r.holders ++ fixedNum 1 r.c

/-- One place of a LANE STATUS outstanding list (10.3). -/
def Entry.bytes (e : Entry) : List Byte := beBytes 2 e.serial ++ beBytes 2 e.slot ++ beBytes 1 (e.countdown.getD 0xFF)

/-- The active and pending reels and the hold figures, where the lane is PLAYING or HELD (10.3). -/
def LaneReport.reelBytes (l : LaneReport) : List Byte :=
  let active := match l.active with
    | none => []
    | some a => beBytes 2 a.slot ++ beBytes 8 a.label.toNat ++ beBytes 2 a.tag.toNat ++ beBytes 2 a.r ++ beBytes 2 a.serial
  let pending := match l.pending with
    | none => []
    | some p => beBytes 2 p.slot ++ beBytes 8 p.label.toNat ++ beBytes 2 p.d ++ beBytes 2 p.tag.toNat
  padTo 16 active ++ padTo 14 pending ++ fixedNum 2 l.holdTimer ++ fixedNum 2 l.holdLimit

/-- The holdings and the clearing countdown, where the lane is OFFLINE, CLEARING or in QUARANTINE (10.3). -/
def LaneReport.holdingBytes (l : LaneReport) : List Byte := countedPlaces 5 l.holdings ++ fixedNum 1 l.clearing

/-- The port part, thirty bytes (10.3). -/
def PortPart.bytes (p : PortPart) : List Byte :=
  let (count, spacing, identity) : Nat × Nat × Identity := match p.state with
    | .unbound => (0, 0, 0)
    | .candidate identity count spacing => (count, spacing, identity)
    | .bound identity => (0, 0, identity)
  beBytes 1 (bitsByte [p.fitted, p.lock, p.degraded, p.entry.identity.isNone]) ++ beBytes 1 p.state.code ++ beBytes 1 count
    ++ beBytes 1 spacing ++ beBytes 8 identity.toNat ++ beBytes 8 (p.entry.identity.getD 0).toNat
    ++ beBytes 1 p.entry.role.code ++ beBytes 1 p.entry.classes ++ beBytes 2 p.windowSum ++ beBytes 1 p.dtInForce
    ++ beBytes 2 p.softErrors ++ beBytes 2 p.noticesLost ++ beBytes 1 p.waiting

/-- The lane flags of LANE STATUS, the first named in bit 0 (10.3; log 28). -/
def LaneReport.flags (l : LaneReport) : Nat :=
  bitsByte [l.pending.isSome, l.pending.any (fun p => p.tie), l.screenHold, l.siteHold, l.siteLevel, l.clearRequired, l.mark]

/-- The body of a LANE STATUS reply after its outcome, section by section (10.3). -/
def LaneReport.bytes (l : LaneReport) : List Byte :=
  beBytes 1 l.state.code ++ beBytes 1 l.flags
    ++ (beBytes 1 l.wt ++ beBytes 2 l.l ++ beBytes 1 l.dt ++ beBytes 2 l.shows ++ beBytes 2 l.timeouts)
    ++ (beBytes 1 l.outstanding.length ++ padTo 20 (l.outstanding.flatMap Entry.bytes))
    ++ (if l.state.running then l.reelBytes else [])
    ++ (if l.state = .offline ∨ l.state = .clearing ∨ l.state = .quarantine then l.holdingBytes else [])
    ++ l.port.bytes

/-- The items of STATUS SUMMARY in the order of R176. -/
def StatusReport.bytes (r : StatusReport) : List Byte :=
  kindBytes r.sticky ++ kindBytes r.mask ++ beBytes 1 r.time.code ++ mapBytes r.quarantined ++ mapBytes r.degraded
    ++ markedBytes r.markedKeys ++ mapBytes r.markedLanes ++ beBytes 2 r.softErrors ++ beBytes 2 r.noticesLost
    ++ beBytes 1 r.lamp.code

/-! ## Replies (R171, R187, 10.3) -/

/-- The kind of the request a reply answers (R187). -/
def Reply.requestKind : Reply → Byte
  | .plain kind _ => kind
  | .portRefusal kind _ _ => kind
  | .laneRefused kind _ _ _ => kind
  | .announce .. => 0x01
  | .queueReel .. => 0x02
  | .stopShow .. => 0x03
  | .holdShow .. => 0x04
  | .resumeShow .. => 0x05
  | .erased .. => 0x06
  | .erasedAll .. => 0x07
  | .laneStatus .. => 0x08
  | .clockStatus .. => 0x09
  | .loadKey .. => 0x10
  | .revokeKey .. => 0x11
  | .purgeHeld .. => 0x12
  | .purgeKey .. => 0x12
  | .keyStatus .. => 0x13
  | .setPort .. => 0x14
  | .setPortRefused .. => 0x14
  | .setClockParameters .. => 0x16
  | .setLaneParameters .. => 0x17
  | .seedTime .. => 0x18
  | .reframe .. => 0x19
  | .restoreLane .. => 0x1A
  | .voidHoldings .. => 0x1B
  | .statusSummary .. => 0x1C
  | .clearSticky .. => 0x1D
  | .setEventMask .. => 0x1E

/-- The outcome of a reply, its body's first byte (R171, 10.3). -/
def Reply.outcome : Reply → Answer
  | .plain _ a => a
  | .portRefusal _ a _ => a
  | .laneRefused _ a _ _ => a
  | .queueReel a _ _ _ _ => a
  | .stopShow a _ => a
  | .erased a _ _ _ => a
  | .erasedAll a _ _ => a
  | .setPortRefused a _ _ => a
  | .purgeHeld _ => .held
  | .announce .. | .holdShow .. | .resumeShow .. | .laneStatus .. | .clockStatus .. | .loadKey .. | .revokeKey ..
  | .purgeKey .. | .keyStatus .. | .setPort .. | .setClockParameters .. | .setLaneParameters .. | .seedTime .. | .reframe ..
  | .restoreLane .. | .voidHoldings .. | .statusSummary .. | .clearSticky .. | .setEventMask .. => .accepted

/-- The items of a reply after its outcome byte: those its owner's rule gives, in that rule's order (10.3; log 28). -/
def Reply.items : Reply → List Byte
  | .plain _ _ => []
  | .portRefusal _ _ view => match view with
    | none => []
    | some v => v.bytes
  | .announce view => view.bytes
  | .queueReel _ lane serial replacedTag report =>
    beBytes 1 lane.code ++ beBytes 2 serial ++ beBytes 2 replacedTag.toNat ++ reportBytes report
  | .stopShow _ lane => beBytes 1 lane.code
  | .holdShow screen site timer lane => flagBytes screen ++ flagBytes site ++ optNum 2 timer ++ beBytes 1 lane.code
  | .resumeShow outcome lane t u => beBytes 1 outcome.code ++ beBytes 1 lane.code ++ optNum 4 t ++ optNum 2 u
  | .erased _ matched lane holdings =>
    (match matched with
      | none => []
      | some m => beBytes 1 m.code) ++ beBytes 1 lane.code ++ numberSet holdings
  | .erasedAll _ lane released => beBytes 1 lane.code ++ (match released with
      | none => []
      | some slots => numberSet slots)
  | .laneStatus report => report.bytes
  | .clockStatus report => report.bytes
  | .loadKey slot screens c state =>
    beBytes 2 slot ++ mapBytes screens ++ beBytes 1 c ++ beBytes 1 (keyStateCode (some state))
  | .revokeKey before revokedAt => beBytes 1 (keyStateCode (some before)) ++ optNum 4 revokedAt
  | .purgeHeld holders => mapBytes holders
  | .purgeKey before openings => beBytes 1 (keyStateCode (some before)) ++ beBytes 2 openings
  | .keyStatus slot report => beBytes 2 slot ++ (match report with
      | none => beBytes 1 (keyStateCode none)
      | some k => k.bytes)
  | .setPort entry view => entry.bytes ++ view.bytes
  | .setPortRefused _ view lane => view.bytes ++ beBytes 1 lane.code
  | .setClockParameters params time => params.bytes ++ beBytes 1 time.code
  | .setLaneParameters taken => taken.flatMap (fun v => beBytes 1 v.1 ++ beBytes 2 v.2.1 ++ beBytes 1 v.2.2)
  | .seedTime s time => beBytes 2 s ++ beBytes 1 time.code
  | .reframe state => beBytes 1 state.code
  | .restoreLane holdings countdown => numberSet holdings ++ beBytes 1 countdown
  | .laneRefused _ _ lane view => beBytes 1 lane.code ++ view.bytes
  | .voidHoldings slots serials => numberSet slots ++ numberSet serials
  | .statusSummary report => report.bytes
  | .clearSticky sticky keys lanes => kindBytes sticky ++ markedBytes keys ++ mapBytes lanes
  | .setEventMask mask => kindBytes mask

/-- The body of a reply: its outcome byte, then its items (10.3). -/
def Reply.body (r : Reply) : List Byte := beBytes 1 r.outcome.code ++ r.items

/-! ## Notices (R187, 10.3) -/

/-- The subject of an event (R174). -/
def Event.subject : Event → Option Nat
  | .keyState slot _ _ _ => some slot
  | .oversubscribed slot _ _ _ => some slot
  | .laneQuarantined lane _ _ _ => some lane.val
  | .laneCleared lane _ _ => some lane.val
  | .portBound port _ _ => some port.val
  | .portUnbound port _ _ => some port.val
  | .portDegraded port _ _ => some port.val
  | .portRecovered port _ _ => some port.val
  | .noticeLost port _ => some port.val
  | .timeState .. | .timeStep .. | .referenceFailed .. | .referenceRestored .. | .referenceRegressed .. | .alignmentChanged ..
  | .broadcastChanged .. | .backupLost => none

/-- The detail of an event, in the order of R174 (10.3). -/
def Event.detail : Event → List Byte
  | .timeState before after cause => beBytes 1 before.code ++ beBytes 1 after.code ++ beBytes 1 cause.code
  | .timeStep delta excess => deltaBytes delta ++ flagBytes excess
  | .referenceFailed framer => beBytes 1 framer.code
  | .referenceRestored position => beBytes 1 position
  | .referenceRegressed w f => beBytes 4 w ++ beBytes 4 f
  | .alignmentChanged before after => beBytes 1 before ++ beBytes 1 after
  | .broadcastChanged bytes => bytes
  | .keyState _ before after cause => beBytes 1 (keyStateCode before) ++ beBytes 1 (keyStateCode after) ++ beBytes 1 cause.code
  | .oversubscribed _ lane holders c => beBytes 1 lane.val ++ mapBytes holders ++ beBytes 1 c
  | .laneQuarantined _ cause holdings serials => beBytes 1 cause.code ++ numberSet holdings ++ numberSet serials
  | .laneCleared _ slots dropped => numberSet slots ++ beBytes 1 dropped
  | .portBound _ identity role => beBytes 8 identity.toNat ++ beBytes 1 role.code
  | .portUnbound _ cause identity => beBytes 1 cause.code ++ beBytes 8 identity.toNat
  | .portDegraded _ sum dt => beBytes 2 sum ++ beBytes 1 dt
  | .portRecovered _ sum dt => beBytes 2 sum ++ beBytes 1 dt
  | .noticeLost _ kind => [kind]
  | .backupLost => []

/-- The body of a notice (10.3). An EVENT's T and subject are fixed fields: zeros where absent (log 15). -/
def Notice.body : Notice → List Byte
  | .release serial slot label material sealedTo tag d endBound =>
    beBytes 2 serial ++ beBytes 2 slot ++ beBytes 8 label.toNat ++ beBytes 32 (Config.sealTo sealedTo material).toNat
      ++ beBytes 2 tag.toNat ++ beBytes 2 d ++ beBytes 5 endBound
  | .withdraw serial slot => beBytes 2 serial ++ beBytes 2 slot
  | .bufferFree reason tag serial =>
    beBytes 1 reason.code ++ beBytes 2 tag.toNat ++ beBytes 2 (serial.getD (Config.unstatedSerial tag).toNat)
  | .showEnded tag serial reason r discarded t =>
    beBytes 2 tag.toNat ++ beBytes 2 serial ++ beBytes 1 reason.code ++ beBytes 2 r
      ++ beBytes 1 (bitsByte [discarded.isSome, t.isSome]) ++ beBytes 2 (discarded.getD 0).toNat ++ fixedNum 4 t
  | .clear countdown holdings serials => beBytes 1 countdown ++ countedPlaces 5 holdings ++ countedPlaces 4 serials
  | .event t e =>
    beBytes 1 e.kind.code ++ beBytes 1 (bitsByte [t.isSome, e.subject.isSome]) ++ fixedNum 4 t ++ fixedNum 2 e.subject
      ++ e.detail

/-! ## Frames (chapter 10) -/

/-- The characters of a frame of a kind, tag and body: sync, length, kind, tag, body, check (R159, R186). -/
def frameOf (kind tag : Byte) (body : List Byte) : List Byte :=
  let covered := BitVec.ofNat 8 body.length :: kind :: tag :: body
  Config.sync :: covered ++ beBytes 2 (crc16 covered).toNat

/-- The characters of a waiting frame: a reply's kind is its request's plus 0x80, its tag the request's (R171, R187). -/
def TxFrame.wire : TxFrame → List Byte
  | .reply tag r => frameOf (r.requestKind + 0x80) tag r.body
  | .notice n => frameOf n.kind (Config.noticeTag n.kind) n.body

end Sys2Proof.Machine
end

