-- ==== Sys2Proof/Safety.lean ====
section
/-! DEFINITION. What the statements call a lawful state, and the readiness under which a request has its effect at once. -/

namespace Sys2Proof.Machine

/-! ## Readiness -/

/-- Port p takes a request that arrives at once: it is at work and fitted, no request waits, eight places are free, and no other
event is in hand (R163). -/
abbrev State.ready (s : State) (p : PortId) : Prop :=
  s.listening p = true ∧ (s.link p).buffer = none ∧ (s.link p).tx.length + Config.takePlaces ≤ Config.txPlaces ∧ s.kept = none

/-- Screen port n takes at once, and its binding admits ERASED and ERASED ALL (R165, R166). -/
abbrev State.readyScreen (s : State) (n : LaneIx) : Prop := s.ready (.screen n) ∧ (s.port n).boundScreen = true

/-- Screen port n takes at once, and its binding admits show control (R165, R166). -/
abbrev State.readyShow (s : State) (n : LaneIx) : Prop := s.readyScreen n ∧ (s.port n).entry.showControl = true

/-- The line is quiet: the framer is at work, and no instant of it is still due at the end of the last period (R2 to R12). -/
abbrev State.lineQuiet (s : State) : Prop := s.running = true ∧ settleLine s = s

/-! ## What a command leaves alone -/

/-- The settings stay: supplies, lock, site hold level, mask, binding entries and lane parameters; and so do the model's own queue
and kept place. -/
abbrev State.keepsSettings (s t : State) : Prop :=
  t.supply = s.supply ∧ t.policyLock = s.policyLock ∧ t.siteHold = s.siteHold ∧ t.siteStableMs = s.siteStableMs
    ∧ t.mask = s.mask ∧ t.kept = s.kept ∧ t.pending = s.pending
    ∧ ∀ n : LaneIx, (t.port n).entry = (s.port n).entry ∧ (t.lane n).wt = (s.lane n).wt ∧ (t.lane n).l = (s.lane n).l
      ∧ (t.lane n).dt = (s.lane n).dt

/-- The settings, the framer, the clock and every port's error window and degrade flag stay: only lanes, grants, keys, port states,
sticky flags, counters of lost notices and transmit lists may differ. -/
abbrev State.keepsRest (s t : State) : Prop :=
  s.keepsSettings t ∧ t.framer = s.framer ∧ t.clock = s.clock
    ∧ ∀ n : LaneIx, (t.port n).slices = (s.port n).slices ∧ (t.port n).dtInForce = (s.port n).dtInForce
      ∧ (t.port n).degraded = (s.port n).degraded

/-! ## The Key Table (R47, R49) -/

/-- The slots are in their canonical form, and no two occupied slots carry one label (R47, R49). -/
abbrev State.tableLawful (s : State) : Prop :=
  keysWf s.keys ∧ (s.keys.map (fun e => e.2.label)).Nodup

/-! ## The ports (R163, R164) -/

/-- No event is in hand, and every transmit list holds at most 32 frames (R164). -/
abbrev State.listsLawful (s : State) : Prop :=
  s.kept = none ∧ s.mgmt.tx.length ≤ Config.txPlaces ∧ ∀ n : LaneIx, (s.port n).link.tx.length ≤ Config.txPlaces

/-! ## Lanes (R73 to R76, R133, R134, R148, R149) -/

/-- The slots that the active grant and the outstanding entries of a lane name. -/
def namedSlots (l : Lane) (r : Release) : List Nat := (l.active.map (fun a => a.slot)).toList ++ r.outstanding.map (fun e => e.slot)

/-- The serials that the active grant and the outstanding entries of a lane carry. -/
def namedSerials (l : Lane) (r : Release) : List Nat :=
  (l.active.map (fun a => a.serial)).toList ++ r.outstanding.map (fun e => e.serial)

/-- A lane has reels, hold flags and a hold timer only in the states that have them (R73 to R76, R97). -/
abbrev ShowLawful (l : Lane) : Prop :=
  l.active.isSome = l.state.running ∧ (l.pending.isSome = true → l.state.running = true)
    ∧ (l.screenHold || l.siteHold) = (l.state == .held) ∧ l.holdTimer.isSome = (l.state == .held)
    ∧ l.holdLimit.isSome = (l.state == .held)

/-- The list of withdrawals holds at most four entries, under serials that differ from each other and from the active grant's, and
every slot that a grant names is held; the holdings rise without duplicates and are at most five (R130, R133, R134). -/
abbrev GrantsLawful (l : Lane) (r : Release) : Prop :=
  r.outstanding.length ≤ Config.outstandingPlaces ∧ (namedSerials l r).Nodup
    ∧ (∀ serial ∈ namedSerials l r, 1 ≤ serial ∧ serial ≤ 65535) ∧ (1 ≤ r.nextSerial ∧ r.nextSerial ≤ 65535)
    ∧ (∀ slot ∈ namedSlots l r, slot ∈ r.holdings) ∧ r.holdings.Pairwise (· < ·) ∧ r.holdings.length ≤ 5

/-- The law of R134: in IDLE, PLAYING and HELD the holdings are exactly the slots that the grants name, and the mark is clear
(R149); in OFFLINE holdings mean a set mark (R149); a clearing countdown stands in CLEARING alone (R148). -/
abbrev HoldingsLawful (l : Lane) (r : Release) : Prop :=
  (l.state.inService = true → (∀ slot ∈ r.holdings, slot ∈ namedSlots l r) ∧ r.clearRequired = false)
    ∧ (l.state = .offline → r.holdings ≠ [] → r.clearRequired = true)
    ∧ r.clearing.isSome = (l.state == .clearing)

/-- Everything a lane and its items in the Release Unit keep to. -/
abbrev LaneLawful (l : Lane) (r : Release) : Prop := ShowLawful l ∧ GrantsLawful l r ∧ HoldingsLawful l r

/-- A lane in IDLE, PLAYING, HELD or CLEARING has its port bound in the SCREEN role (R74, R102 to R104, R150). -/
abbrev PortLawful (l : Lane) (p : ScreenPort) : Prop := l.state.inService = true ∨ l.state = .clearing → p.boundScreen = true

/-- Every lane is lawful (R134, R157). -/
abbrev State.lanesLawful (s : State) : Prop :=
  ∀ n : LaneIx, LaneLawful (s.lane n) (s.rel n) ∧ PortLawful (s.lane n) (s.port n)

/-! ## Holders (R67, R122) -/

/-- No key has more holders than its concurrency limit allows, and no lane holds an EMPTY slot (R65, R67, R122). -/
abbrev State.holdersLawful (s : State) : Prop :=
  (∀ e ∈ s.keys, s.holderCount e.1 ≤ e.2.c) ∧ ∀ n : LaneIx, ∀ slot ∈ (s.rel n).holdings, (s.key slot).isSome = true

/-! ## The clock (R25, R36, R37, R41) -/

/-- T and U exist outside NO TIME, h exists where the oscillator carries T, and U stands on the side of the ceiling that the time
state says (R25): at most 2 s in ASSURED, at most Uc in HOLDOVER, above it in UNASSURED. -/
abbrev ClockLawful (c : Clock) : Prop :=
  c.t.isSome = (c.time != .noTime) ∧ c.uMs.isSome = (c.time != .noTime)
    ∧ c.h.isSome = (c.time == .holdover || c.time == .unassured)
    ∧ (5 ≤ c.params.uc ∧ c.params.uc ≤ 600)
    ∧ (c.time = .assured → c.u ≤ 2)
    ∧ (c.time = .holdover → c.u ≤ c.params.uc)
    ∧ (c.time = .unassured → c.params.uc < c.u)
    ∧ (c.time = .holdover ∨ c.time = .unassured → c.uMs = some (holdoverUMs c.u0 c.acc))

/-! ## The framer (R1, R3, R9, R11, R12, R19) -/

/-- The framer's records keep their sizes: 128 bits of history, phases and positions below 128, at most eight marks in the loss
window, at most sixteen ends in the check window and no more failures than ends, a clean window of at most 64 periods, a fail
timer of at most 120. -/
abbrev FramerLawful (f : Framer) : Prop :=
  f.history.length = 128 ∧ f.linePhase < 128 ∧ f.lastPosition.all (fun p => decide (p < 128)) = true
    ∧ f.candidate.all (fun c => decide (c.position < 128)) = true ∧ f.lossWindow.length ≤ 8 ∧ f.checkEnds ≤ 16
    ∧ f.checkFails ≤ f.checkEnds ∧ f.clean ≤ 64 ∧ f.failTimer ≤ 120

/-! ## The end of a show (R77, R126, R135) -/

/-- The state in which the end of lane n's show with a withdrawal leaves it: IDLE where its list has a place (R135). -/
abbrev State.endedState (s : State) (n : LaneIx) : LaneState :=
  if (s.rel n).outstanding.length < 4 then .idle else .quarantine

/-- The end-bound re-check of an active reel refuses for a reason, the first of its steps that does (R126). -/
abbrev State.recheckRefuses (s : State) (a : ActiveReel) (reason : Answer) : Prop :=
  (reason = .keyChanged ∧ ∀ k ∈ s.key a.slot, k.label ≠ a.label)
    ∨ ∃ k ∈ s.key a.slot, k.label = a.label
      ∧ ((reason = .revoked ∧ k.state = .revoked) ∨ (reason = .expired ∧ k.state = .expired)
        ∨ (k.state ≠ .revoked ∧ k.state ≠ .expired
          ∧ ((reason = .timeUnassured ∧ (s.clock.time = .noTime ∨ s.clock.time = .unassured))
            ∨ (reason = .runsPast ∧ (s.clock.time = .assured ∨ s.clock.time = .holdover)
              ∧ k.na + k.a < s.clock.now + s.clock.u + a.r))))

/-- The show that lane n has on reel `a`, its R as it stands at the end, ends with a withdrawal and a reason, and leaves the lane `l`
without its show. With a place on the list the grant is withdrawn and the lane is IDLE; with four entries nothing is withdrawn and
the lane is in QUARANTINE, its slot still held (R77, R135, R144). Its port's notices go out before `after` (R79). -/
abbrev State.showEnds (s t : State) (n : LaneIx) (l : Lane) (a : ActiveReel) (reason : ShowReason) (after : List TxFrame) : Prop :=
  let sends := s.isFitted n = true ∧ (s.port n).state.isBound = true
    ∧ (s.link (.screen n)).tx.length + 2 + after.length ≤ 32 ∧ s.kept = none
  let report (reason : ShowReason) : TxFrame :=
    .notice (.showEnded a.tag a.serial reason a.r (l.pending.map (fun p => p.tag)) s.clock.t)
  t.lane n = { l with
      state := s.endedState n, active := none, pending := none, screenHold := false, siteHold := false, holdTimer := none
      holdLimit := none, tickOwed := false }
    ∧ ((s.rel n).outstanding.length < 4 →
      t.rel n = { s.rel n with outstanding := (s.rel n).outstanding ++
          [{ serial := a.serial, slot := a.slot, countdown := some l.wt }] }
        ∧ (sends → (t.link (.screen n)).tx = (s.link (.screen n)).tx ++
            [.notice (.withdraw a.serial a.slot), report reason] ++ after))
    ∧ (4 ≤ (s.rel n).outstanding.length →
      t.rel n = { s.rel n with
          outstanding := (s.rel n).outstanding.map (fun e => { e with countdown := none }), clearing := none }
        ∧ t.sticky.getLsbD EventKind.laneQuarantined.code = true
        ∧ (sends → (t.link (.screen n)).tx = (s.link (.screen n)).tx ++ [report .quarantine] ++ after))

/-! ## One frame error (R160 to R162) -/

/-- One frame error on port p takes `s` to `t`, and leaves the receiver `rx`: one soft error, and on a screen port one error in the
current slice, which may degrade the port; nothing else changes. -/
abbrev State.oneFrameError (s t : State) (p : PortId) (rx : Receiver) : Prop :=
  t.link p = { s.link p with softErrors := min 65535 ((s.link p).softErrors + 1), receiver := rx }
    ∧ (∀ n, p = .screen n →
        (t.port n).slices = addError (s.port n).slices
          ∧ (t.port n).degraded = ((s.port n).degraded || decide ((s.port n).dtInForce ≤ (addError (s.port n).slices).sum))
          ∧ ((s.port n).degraded = false → (t.port n).degraded = true → t.sticky.getLsbD EventKind.portDegraded.code = true)
          ∧ ((t.port n).degraded = (s.port n).degraded → t.mgmt = s.mgmt ∧ t.sticky = s.sticky)
          ∧ (t.port n).dtInForce = (s.port n).dtInForce ∧ (t.port n).state = (s.port n).state)
    ∧ (p = .mgmt → t.sticky = s.sticky) ∧ (∀ m, p ≠ .screen m → t.port m = s.port m)
    ∧ t.lanes = s.lanes ∧ t.releases = s.releases ∧ t.keys = s.keys ∧ t.clock = s.clock ∧ t.framer = s.framer
    ∧ s.keepsSettings t

/-! ## An elapsed tick at its receivers (R24) -/

/-- The key in a slot moves to EXPIRED in an evaluation under a clock (R56, R57). -/
abbrev State.expiresAt (s : State) (c : Clock) (slot : Nat) : Prop :=
  c.usable = true ∧ (s.key slot).any (fun k => k.state != .expired && k.judged c.now c.u == .expired) = true

/-- A countdown neither at its end nor one tick before it (R136, R148). -/
abbrev runsOn (countdown : Option Nat) : Prop := countdown ≠ some 0 ∧ countdown ≠ some 1

/-- The framer's fail timer and alarm one elapsed tick on (R19). -/
abbrev State.tickAtFramer (s t : State) : Prop :=
  let timer := if s.framer.state = .aligned then s.framer.failTimer else min 120 (s.framer.failTimer + 1)
  t.framer.failTimer = timer
    ∧ t.framer.alarm = (s.framer.alarm || (s.framer.state != .aligned && decide (s.clock.params.failTime ≤ timer)))
    ∧ (s.framer.alarm = false → t.framer.alarm = true → t.sticky.getLsbD EventKind.referenceFailed.code = true)

/-- Screen port n one elapsed tick on: the oldest slice leaves, its lane's Dt is taken, the degrade flag is tested against both, and
a candidate's spacing advances (R162, R167). -/
abbrev State.tickAtPort (s t : State) (n : LaneIx) : Prop :=
  let slices := (0 :: (s.port n).slices).take 8
  let dt := (s.lane n).dt
  (t.port n).slices = slices ∧ (t.port n).dtInForce = dt ∧ (t.port n).state = (s.port n).state.spaced
    ∧ (t.port n).degraded = (if (s.port n).degraded = true then decide (dt / 2 < slices.sum) else decide (dt ≤ slices.sum))
    ∧ ((s.port n).degraded = true → (t.port n).degraded = false → t.sticky.getLsbD EventKind.portRecovered.code = true)
    ∧ ((s.port n).degraded = false → (t.port n).degraded = true → t.sticky.getLsbD EventKind.portDegraded.code = true)

/-- Lane n one elapsed tick on, where no countdown of it comes to its end: the reel's R or the hold timer and the countdowns of its
entries or of its clearing move by one, unless the evaluation of the tick expires the active reel's key (R84, R97, R99, R136,
R148). -/
abbrev State.tickAtLane (s t : State) (n : LaneIx) : Prop :=
  let counted : Release := { s.rel n with
    outstanding := (s.rel n).outstanding.map (fun e => { e with countdown := e.countdown.map (fun c => c - 1) }) }
  (∀ e ∈ (s.rel n).outstanding, runsOn e.countdown) →
    (∀ a, (s.lane n).state = .playing → (s.lane n).active = some a → 1 < a.r → ¬ s.expiresAt t.clock a.slot →
        t.lane n = { s.lane n with active := some { a with r := a.r - 1 } } ∧ t.rel n = counted)
    ∧ (∀ a timer limit, (s.lane n).state = .held → (s.lane n).active = some a → (s.lane n).holdTimer = some timer →
        (s.lane n).holdLimit = some limit → timer + 1 < limit → ¬ s.expiresAt t.clock a.slot →
        t.lane n = { s.lane n with holdTimer := some (timer + 1) } ∧ t.rel n = counted)
    ∧ ((s.lane n).state = .idle → t.lane n = s.lane n ∧ t.rel n = counted)
    ∧ ((s.lane n).state = .clearing → runsOn (s.rel n).clearing →
        t.lane n = s.lane n ∧ t.rel n = { s.rel n with clearing := (s.rel n).clearing.map (fun c => c - 1) })
    ∧ ((s.lane n).state = .offline ∨ (s.lane n).state = .quarantine → t.lane n = s.lane n ∧ t.rel n = s.rel n)

/-- One elapsed tick reaches its receivers: the framer, the fitted ports and the lanes (R24, step 4). A receiver that still owes a
share of the tick before is left out (log 26). -/
abbrev State.tickReaches (s t : State) : Prop :=
  s.keepsSettings t ∧ (s.framer.tickOwed = false → s.tickAtFramer t) ∧ (∀ n, s.isFitted n = true → s.tickAtPort t n)
    ∧ ∀ n, (s.lane n).tickOwed = false → s.tickAtLane t n

/-! ## A superframe end at the clock (R27 to R32, R98) -/

/-- A report without a confirmation takes the clock of `s` to `c`, whose memory is then `prev`: in ASSURED a miss, the third of which
enters HOLDOVER, elsewhere nothing (R26, R32, R34). -/
abbrev State.missesAt (s : State) (c : Clock) (prev : Option Nat) : Prop :=
  (s.clock.time = .assured → s.clock.miss < 2 → c = { s.clock with miss := s.clock.miss + 1, prev := prev })
    ∧ (s.clock.time = .assured → 2 ≤ s.clock.miss → c = { s.clock with
        time := .holdover, u0 := s.clock.uMs.getD 0, acc := 0, h := some 0, miss := 0, prev := prev })
    ∧ (s.clock.time ≠ .assured → c = { s.clock with prev := prev })

/-- A step to W reaches lane n, whose active reel's key stands under the reel's label and has not ended: the show goes on as it was
where it can run out under the new T and U, and ends where it cannot (R30, R98, R126). -/
abbrev State.stepAtLane (s t : State) (w : Nat) (n : LaneIx) : Prop :=
  ∀ (a : ActiveReel) (k : Key), (s.lane n).state.running = true → (s.lane n).active = some a → s.key a.slot = some k →
    k.label = a.label → k.state ≠ .revoked → k.state ≠ .expired →
      (1 ≤ a.r → w + t.clock.u + a.r ≤ k.na + k.a → t.lane n = s.lane n ∧ t.rel n = s.rel n)
      ∧ (k.na + k.a < w + t.clock.u + a.r →
          (t.lane n).active = none ∧ (t.lane n).state = (if (s.rel n).outstanding.length < 4 then .idle else .quarantine)
            ∧ (t.rel n).holdings = (s.rel n).holdings)

/-- A confirmation of W with quality q takes `s` to `t`: ASSURED at W with the quality's bound, the holdover figures at their start
outside ASSURED, and a T that it changes recorded as a step, reported, and re-checked by the lanes (R29 to R31). -/
abbrev State.confirmsTo (s t : State) (w q : Nat) : Prop :=
  (s.clock.time = .assured → t.clock = { s.clock with
      t := some w, uMs := some (qualityBound q), miss := 0, regress := false, prev := some w, lastStep := t.clock.lastStep })
    ∧ (s.clock.time ≠ .assured → t.clock = { s.clock with
        time := .assured, t := some w, uMs := some (qualityBound q), u0 := qualityBound q, acc := 0, h := none, miss := 0
        regress := false, osc := Config.oscAtSuperframeEnd, prev := some w, lastStep := t.clock.lastStep }
      ∧ t.sticky.getLsbD EventKind.timeState.code = true)
    ∧ (s.clock.t = none ∨ s.clock.t = some w → t.clock.lastStep = s.clock.lastStep)
    ∧ ∀ old, s.clock.t = some old → old ≠ w →
        t.clock.lastStep = some {
          delta := max (-2147483647) (min 2147483647 ((w : Int) - old))
          excess := decide (s.clock.u < ((w : Int) - old).natAbs), t := w }
        ∧ t.sticky.getLsbD EventKind.timeStep.code = true ∧ ∀ n, s.stepAtLane t w n

/-! ## Requests as commands -/

/-- The command of a request that arrives on port p with a tag (the request rows of the table). -/
def onPort (p : PortId) (tag : Byte) : Request → Instr
  | .announce identity => .announce p tag identity
  | .queueReel slot label d tie reelTag => .queueReel p tag slot label d tie reelTag
  | .stopShow => .stopShow p tag
  | .holdShow => .holdShow p tag
  | .resumeShow => .resumeShow p tag
  | .erased serial => .erased p tag serial
  | .erasedAll => .erasedAll p tag
  | .laneStatus lane => .laneStatus p tag lane
  | .clockStatus => .clockStatus p tag
  | .loadKey slot label nb na a c screens sealedMaterial unsealed =>
    .loadKey p tag slot label nb na a c screens sealedMaterial unsealed
  | .revokeKey slot => .revokeKey p tag slot
  | .purgeKey slot => .purgeKey p tag slot
  | .keyStatus slot => .keyStatus p tag slot
  | .setPort port identity role classes => .setPort p tag port identity role classes
  | .lockPolicy => .lockPolicy p tag
  | .setClockParameters r uc k e checkLoss failTime strict => .setClockParameters p tag r uc k e checkLoss failTime strict
  | .setLaneParameters lane wt l dt => .setLaneParameters p tag lane wt l dt
  | .seedTime value uncertainty => .seedTime p tag value uncertainty
  | .reframe => .reframe p tag
  | .restoreLane lane => .restoreLane p tag lane
  | .voidHoldings lane => .voidHoldings p tag lane
  | .statusSummary => .statusSummary p tag
  | .clearSticky kinds lanes slots => .clearSticky p tag kinds lanes slots
  | .setEventMask kinds => .setEventMask p tag kinds
  | .clearCounters => .clearCounters p tag

end Sys2Proof.Machine
end

