-- ==== Sys2Proof/Certificates/Slice0/Obligations.lean ====
section
/-! DEFINITION. The statements about the SK-16, for the provers: the whole part first, then command by command. -/

open Sys2Proof Sys2Proof.Machine

/-! ## The step and the queue -/

/-- A step runs the command at the front of the queue, on the state with the queue's rest. The queue is the model's own (log 25). -/
def Obligations.StepRunsFrontCommand : Prop :=
  ∀ (s : State) (c : Instr) (rest : List Instr), s.pending = c :: rest → step s = exec c { s with pending := rest }

/-- On an empty queue one oscillator cycle passes (the model's choice, log 6): outside ASSURED the 32,768th cycle of a second is an
elapsed tick, and in ASSURED, where the start marks are the ticks, the count only goes on (R23). The tick takes its second off the
count; in HOLDOVER and UNASSURED T and h advance and U grows by the rate, U past the ceiling ends HOLDOVER, and the floor rises to
T − U in HOLDOVER alone (R24, R35 to R37, R39). CEILING PASSED is that tick (log 5). -/
def Obligations.IdleCyclesAndElapsedTicks : Prop :=
  (∀ s : State, s.pending = [] → s.retained = true →
      let counted : State := { s with clock := { s.clock with osc := s.clock.osc + 1 } }
      (s.clock.osc + 1 < 32768 ∨ s.clock.time = .assured → step s = .next counted)
        ∧ (32768 ≤ s.clock.osc + 1 → s.clock.time ≠ .assured → step s = exec (.elapsedTick []) counted))
    ∧ (∀ (apart : List TickPart) (s : State) (tm um hm : Nat), s.retained = true →
      (s.clock.time = .noTime → ∃ t, exec (.elapsedTick apart) s = .next t
        ∧ t.clock = { s.clock with osc := s.clock.osc - 32768 } ∧ s.keepsSettings t)
      ∧ (s.clock.time = .holdover ∨ s.clock.time = .unassured → s.clock.t = some tm → s.clock.uMs = some um →
          s.clock.h = some hm →
        ∃ t acc u, exec (.elapsedTick apart) s = .next t
          ∧ acc = (if um < 3600000 then s.clock.acc + s.clock.params.r else s.clock.acc)
          ∧ u = (min 3600000 (s.clock.u0 + (acc + 999) / 1000) + 999) / 1000
          ∧ t.clock = { s.clock with
              osc := s.clock.osc - 32768
              t := some (min 4294967295 (tm + 1)), h := some (min 4294967295 (hm + 1)), acc := acc
              uMs := some (min 3600000 (s.clock.u0 + (acc + 999) / 1000))
              time := if s.clock.time = .holdover ∧ s.clock.params.uc < u then .unassured else s.clock.time
              floor := if s.clock.time = .holdover ∧ u ≤ s.clock.params.uc then max s.clock.floor (min 4294967295 (tm + 1) - u)
                else s.clock.floor }
          ∧ s.keepsSettings t))
    ∧ (∀ (apart : List TickPart) (s : State) (tm um : Nat), s.retained = true → s.clock.time = .holdover →
      s.clock.t = some tm → s.clock.uMs = some um → um < 3600000 →
      s.clock.params.uc < (min 3600000 (s.clock.u0 + (s.clock.acc + s.clock.params.r + 999) / 1000) + 999) / 1000 →
        ∃ t, exec (.ceilingPassed apart) s = .next t ∧ t.clock.time = .unassured
          ∧ t.clock.t = some (min 4294967295 (tm + 1)) ∧ t.clock.floor = s.clock.floor ∧ s.keepsSettings t
          ∧ exec (.elapsedTick apart) s = .next t
          ∧ (s.running = true → t.sticky.getLsbD EventKind.timeState.code = true))

/-- Every command has a next state in every state, and the queue is left to the step. The rows for an event whose condition does not
hold leave the part as it stands, which is the model's choice (log 1), and so is the queue (log 25). -/
def Obligations.EveryCommandHasANextState : Prop :=
  ∀ (c : Instr) (s : State), ∃ t, exec c s = .next t ∧ t.pending = s.pending

/-! ## Invariants of the whole part -/

/-- The table keeps its canonical form, and no two occupied slots carry one label (R47, R49). -/
def Obligations.StepKeepsKeyTable : Prop :=
  ∀ s t : State, s.tableLawful → step s = .next t → t.tableLawful

/-- No transmit list ever holds more than 32 frames (R164), and no event is left in hand. -/
def Obligations.StepKeepsTransmitLists : Prop :=
  ∀ s t : State, s.listsLawful → step s = .next t → t.listsLawful

/-- Lanes keep their law: reels, holds and timers by state, at most four entries under distinct serials, holdings rising without
duplicates, at most five, and exactly the slots named in service; and a lane in IDLE, PLAYING, HELD or CLEARING has its port BOUND as
SCREEN (R73 to R76, R130, R133, R134, R149, R157). -/
def Obligations.StepKeepsLanes : Prop :=
  ∀ s t : State, s.lanesLawful → step s = .next t → t.lanesLawful

/-- No key is ever held by more lanes than its concurrency limit allows, and no EMPTY slot is held (R65, R67, R122). -/
def Obligations.StepKeepsConcurrencyLimit : Prop :=
  ∀ s t : State, s.tableLawful → s.holdersLawful → step s = .next t → t.holdersLawful

/-- The clock keeps to the table of its time states: what exists, and on which side of the ceiling U stands (R25, R37). The framer's
records keep their ranges: 128 periods of history, positions below 128, windows of 8 and 16 ends, a fail timer of at most 120 (R1, R3,
R10 to R12, R19). -/
def Obligations.StepKeepsClock : Prop :=
  (∀ s t : State, ClockLawful s.clock → step s = .next t → ClockLawful t.clock)
    ∧ ∀ s t : State, FramerLawful s.framer → step s = .next t → FramerLawful t.framer

/-- The state after reset meets these laws, and has the values of a main power-up with a bad marker: R46 for the clock, R72 and R153
for keys and holdings, R108 and R152 for the lanes, R22 for the framer, R166, R167 and R173 for the ports, R180 for the Event Unit. -/
def Obligations.ResetIsLawfulWithItsValues : Prop :=
  (State.reset.tableLawful ∧ State.reset.listsLawful ∧ State.reset.lanesLawful ∧ State.reset.holdersLawful
      ∧ ClockLawful State.reset.clock ∧ FramerLawful State.reset.framer)
    ∧ (State.reset.clock.time = .noTime ∧ State.reset.clock.t = none ∧ State.reset.clock.uMs = none ∧ State.reset.clock.floor = 0
      ∧ State.reset.clock.params = { r := 50, uc := 120, k := 3, e := 4, checkLoss := true, failTime := 10, strict := false }
      ∧ State.reset.keys = [] ∧ State.reset.framer.state = .search
      ∧ State.reset.framer.history = List.replicate 128 .invalid
      ∧ (∀ n : LaneIx, (State.reset.lane n).state = .offline ∧ (State.reset.lane n).wt = 5 ∧ (State.reset.lane n).l = 1200
          ∧ (State.reset.lane n).dt = 24)
      ∧ (∀ n : LaneIx, (State.reset.rel n).nextSerial = 1 ∧ (State.reset.rel n).holdings = []
          ∧ (State.reset.rel n).outstanding = [] ∧ (State.reset.rel n).clearRequired = false)
      ∧ (∀ n : LaneIx, (State.reset.port n).state = .unbound ∧ (State.reset.port n).entry.role = .disabled
          ∧ (State.reset.port n).entry.identity = none ∧ (State.reset.port n).dtInForce = 24)
      ∧ State.reset.mask = BitVec.allOnes 17 ∧ State.reset.sticky = EventKind.backupLost.bit
      ∧ State.reset.mgmt.tx = [.notice (.event none .backupLost)] ∧ State.reset.policyLock = false)

/-- The time floor never decreases while the validity marker is good: only backup loss takes it back (R39, R46). -/
def Obligations.FloorNeverDecreases : Prop :=
  ∀ (c : Instr) (s t : State), s.supply.markerGood = true → exec c s = .next t → s.clock.floor ≤ t.clock.floor

/-- A window evaluation runs in ASSURED and HOLDOVER alone, moves each key to the furthest of its conditions that holds and none back, and
touches no field of a record but its state and expired-at, which is T where it enters EXPIRED (R48, R56 to R58). Its expiry notices end
the shows on a key that enters EXPIRED with reason EXPIRED, and leave every other lane as it was (R58, R99). -/
def Obligations.EvaluationMovesKeysForward : Prop :=
  (∀ (s : State) (slot : Nat) (k : Key), s.key slot = some k →
    ∃ k', (evaluate s).key slot = some k' ∧ k.state.rank ≤ k'.state.rank
      ∧ k' = { k with state := k'.state, expiredAt := k'.expiredAt }
      ∧ (k.state = .expired ∨ k.state = .revoked ∨ s.clock.usable = false → k' = k)
      ∧ (s.clock.usable = true → k.state ≠ .expired → k.state ≠ .revoked →
          k'.state = (if k.na + k.a + s.clock.u ≤ s.clock.now then .expired
            else if k.na ≤ s.clock.now + s.clock.u then .closing
            else if k.nb + s.clock.u ≤ s.clock.now ∧ k.state = .waiting then .opened else k.state)
          ∧ k'.expiredAt = (if k.na + k.a + s.clock.u ≤ s.clock.now then some s.clock.now else k.expiredAt)
          ∧ (s.running = true → k'.state ≠ k.state → (evaluate s).sticky.getLsbD EventKind.keyState.code = true)))
    ∧ (∀ (s : State) (slot : Nat), s.key slot = none → (evaluate s).key slot = none)
    ∧ (∀ (s : State) (n : LaneIx) (a : ActiveReel), s.running = true → (s.lane n).state.running = true →
      (s.lane n).active = some a → s.expiresAt s.clock a.slot → (s.rel n).outstanding.length < 4 →
        (evaluate s).lane n = { s.lane n with
            state := .idle, active := none, pending := none, screenHold := false, siteHold := false, holdTimer := none,
            holdLimit := none, tickOwed := false }
          ∧ (evaluate s).rel n = { s.rel n with outstanding := (s.rel n).outstanding ++
              [{ serial := a.serial, slot := a.slot, countdown := some (s.lane n).wt }] }
          ∧ (s.isFitted n = true → (s.port n).state.isBound = true → (s.link (.screen n)).tx.length + 2 ≤ 32 → s.kept = none →
              ((evaluate s).link (.screen n)).tx = (s.link (.screen n)).tx ++
                [.notice (.withdraw a.serial a.slot),
                 .notice (.showEnded a.tag a.serial (.refused .expired) a.r ((s.lane n).pending.map (fun p => p.tag)) s.clock.t)]))
    ∧ (∀ (s : State) (n : LaneIx),
      (s.running = false ∨ (s.lane n).state.running = false ∨ ∀ a, (s.lane n).active = some a → ¬ s.expiresAt s.clock a.slot) →
        (evaluate s).lane n = s.lane n ∧ (evaluate s).rel n = s.rel n ∧ (evaluate s).port n = s.port n)
    ∧ ∀ s : State, s.keepsRest (evaluate s)

/-- A request on a screen port changes no policy and no parameter (binding entries, lock, mask, clock, lane parameters, framer; of a
key's record nothing but its openings count and mark), and touches no other lane, its grants or its port (R165, R166, R171). A
management kind there is refused NOT PERMITTED in every port state; any kind but ANNOUNCE is refused NOT BOUND on a port that is
not bound, and NOT PERMITTED where role and classes do not admit it; and so is a screen port's kind on the management port
(R165, R166). Such a refusal has no effect but its reply. -/
def Obligations.ScreenRequestsLeavePolicyAndOtherLanes : Prop :=
  (∀ (n : LaneIx) (tag : Byte) (r : Request) (s t : State), exec (onPort (.screen n) tag r) s = .next t →
      t.policyLock = s.policyLock ∧ t.mask = s.mask ∧ t.clock = s.clock ∧ t.framer = s.framer ∧ t.supply = s.supply
        ∧ (∀ m, (t.port m).entry = (s.port m).entry)
        ∧ (∀ m, (t.lane m).wt = (s.lane m).wt ∧ (t.lane m).l = (s.lane m).l ∧ (t.lane m).dt = (s.lane m).dt)
        ∧ (∀ slot, (t.key slot).map (fun k => { k with openings := 0, mark := false })
            = (s.key slot).map (fun k => { k with openings := 0, mark := false })))
    ∧ (∀ (n m : LaneIx) (tag : Byte) (r : Request) (s t : State), m ≠ n → exec (onPort (.screen n) tag r) s = .next t →
      t.lane m = s.lane m ∧ t.rel m = s.rel m ∧ t.port m = s.port m)
    ∧ (∀ (n : LaneIx) (tag : Byte) (r : Request) (s : State), s.ready (.screen n) →
      let refusedWith (reason : Answer) : Prop := exec (onPort (.screen n) tag r) s
        = .next (s.place (.screen n) (.reply tag (.portRefusal r.kind reason (some (s.port n).view))))
      let entry := (s.port n).entry
      (0x10 ≤ r.kind.toNat → refusedWith .notPermitted)
      ∧ (2 ≤ r.kind.toNat → r.kind.toNat ≤ 9 → (∀ identity, (s.port n).state ≠ .bound identity) → refusedWith .notBound)
      ∧ (∀ identity, (s.port n).state = .bound identity →
        ((r.kind.toNat = 2 ∨ r.kind.toNat = 3 ∨ r.kind.toNat = 4 ∨ r.kind.toNat = 5) →
          (entry.role ≠ .screen ∨ entry.showControl = false) → refusedWith .notPermitted)
        ∧ ((r.kind.toNat = 6 ∨ r.kind.toNat = 7) → entry.role ≠ .screen → refusedWith .notPermitted)
        ∧ ((r.kind.toNat = 8 ∨ r.kind.toNat = 9) → (entry.role = .disabled ∨ entry.queries = false) →
          refusedWith .notPermitted)))
    ∧ (∀ (tag : Byte) (r : Request) (s : State), s.ready .mgmt → r.kind.toNat ≤ 7 →
      exec (onPort .mgmt tag r) s = .next (s.place .mgmt (.reply tag (.portRefusal r.kind .notPermitted none))))

/-- An unfitted screen port takes no request, reads no character and sends no frame (R158). -/
def Obligations.UnfittedPortIsDeaf : Prop :=
  ∀ (n : LaneIx) (tag : Byte) (r : Request) (chars : List Byte) (gapMicros : Nat) (char : Byte) (unsealed : Option Material)
    (s : State), s.isFitted n = false →
      exec (onPort (.screen n) tag r) s = .next s ∧ exec (.frameComplete (.screen n) chars unsealed) s = .next s
        ∧ exec (.lengthAbove96 (.screen n) chars unsealed) s = .next s
        ∧ exec (.gapError (.screen n) chars gapMicros char unsealed) s = .next s
        ∧ exec (.requestTaken (.screen n)) s = .next s ∧ exec (.frameSent (.screen n)) s = .next s

/-! ## Frames and replies (chapters 7 and 10) -/

/-- Reading a request's body gives back every field at every value the encoding admits (R187, R188). -/
def Obligations.RequestBodiesRoundTrip : Prop :=
  ∀ r : Request, r.wellFormed = true → decodeRequest r.kind r.body r.unsealed = some r

/-- A well-formed request's frame, received whole by a hunting receiver over an empty buffer, enters the buffer as that request with
its tag, and nothing else changes, where fewer than eight places are free; where eight are free it is taken at once, as REQUEST TAKEN
takes it (R159, R163, R186, R187). Characters come in runs (log 23), and a REQUEST TAKEN next in the queue does the taking itself
(log 2): the model's choices. -/
def Obligations.FrameCompleteBuffersTheRequest : Prop :=
  ∀ (p : PortId) (tag : Byte) (r : Request) (s : State), r.wellFormed = true → s.listening p = true →
    (s.link p).buffer = none → (s.link p).receiver = .hunting →
      (32 < (s.link p).tx.length + 8 ∨ s.pending.head? = some (.requestTaken p) →
        exec (.frameComplete p (frameOf r.kind tag r.body) r.unsealed) s
          = .next (s.setLink p { s.link p with buffer := some (tag, r) }))
      ∧ ((s.link p).tx.length + 8 ≤ 32 → s.pending.head? ≠ some (.requestTaken p) →
        exec (.frameComplete p (frameOf r.kind tag r.body) r.unsealed) s
          = exec (.requestTaken p) (s.setLink p { s.link p with buffer := some (tag, r) }))

/-- A complete frame with a wrong check, a kind that is no request kind, a body length its kind does not permit or a buffer still full,
a length above 96, and a gap over 2 ms inside a frame are one frame error each: the frame is dropped, one soft error is counted, and on
a screen port one error in the current slice, which degrades the port where the window sum reaches Dt. The character that ends the gap
is read as hunting reads it; a gap of 2 ms or less, and one while hunting, is no error (R159 to R162). Characters come in runs, the
model's choice (log 23). -/
def Obligations.FrameErrorsAreCountedOnce : Prop :=
  (∀ (p : PortId) (length kind tag hi lo : Byte) (body : List Byte) (unsealed : Option Material) (s : State),
      s.listening p = true → (s.link p).receiver = .hunting → (s.link p).buffer = none ∨ 32 < (s.link p).tx.length + 8 →
      length.toNat ≤ 96 → body.length = length.toNat →
      (hi ++ lo ≠ crc16 (length :: kind :: tag :: body)
        ∨ (∀ r : Request, r.wellFormed = true → r.kind = kind → r.body.length ≠ length.toNat) ∨ (s.link p).buffer ≠ none) →
        ∃ t, exec (.frameComplete p (0xC3 :: length :: kind :: tag :: (body ++ [hi, lo])) unsealed) s = .next t
          ∧ s.oneFrameError t p .hunting)
    ∧ (∀ (p : PortId) (length : Byte) (chars junk : List Byte) (unsealed : Option Material) (s : State), s.listening p = true →
      96 < length.toNat →
      ((s.link p).receiver = .assembling [] ∧ chars = [length]
        ∨ (s.link p).receiver = .hunting ∧ 0xC3 ∉ junk ∧ chars = junk ++ [0xC3, length]) →
        ∃ t, exec (.lengthAbove96 p chars unsealed) s = .next t ∧ s.oneFrameError t p .hunting)
    ∧ (∀ (p : PortId) (before part rest : List Byte) (length : Byte) (gapMicros : Nat) (char : Byte) (unsealed : Option Material)
      (s : State), s.listening p = true → 2000 < gapMicros →
      ((s.link p).receiver = .assembling part ∧ before = []
        ∨ (s.link p).receiver = .hunting ∧ (before = [0xC3]
          ∨ before = 0xC3 :: length :: rest ∧ length.toNat ≤ 96 ∧ rest.length < length.toNat + 4)) →
        ∃ t, exec (.gapError p before gapMicros char unsealed) s = .next t
          ∧ s.oneFrameError t p (if char = 0xC3 then .assembling [] else .hunting))
    ∧ (∀ (p : PortId) (before : List Byte) (gapMicros : Nat) (char : Byte) (unsealed : Option Material) (s : State),
      s.listening p = true →
      (2000 < gapMicros → (s.link p).receiver = .hunting → 0xC3 ∉ before →
        exec (.gapError p before gapMicros char unsealed) s
          = .next (s.setLink p { s.link p with receiver := if char = 0xC3 then .assembling [] else .hunting }))
      ∧ (gapMicros ≤ 2000 → exec (.gapError p [] gapMicros char unsealed) s = exec (.frameComplete p [char] unsealed) s))

/-- A buffered request is taken where eight places are free: the buffer empties, and one reply of its kind, with its tag, is placed last,
after notices alone (R163, R171). A request row's arrival is its buffering and its taking. A frame that has been sent leaves its place
(R164), and a request that waits is then taken where that makes eight places free (R163); a REQUEST TAKEN next in the queue does that
taking itself. Both are the model's choice, log 2. -/
def Obligations.TakenRequestsReplyLast : Prop :=
  (∀ (p : PortId) (tag : Byte) (r : Request) (s : State), s.listening p = true → (s.link p).buffer = some (tag, r) →
      ((s.link p).tx.length + 8 ≤ 32 →
        ∃ (t : State) (ns : List Notice) (rp : Reply), exec (.requestTaken p) s = .next t
          ∧ (t.link p).tx = (s.link p).tx ++ ns.map TxFrame.notice ++ [.reply tag rp] ∧ rp.requestKind = r.kind
          ∧ (t.link p).tx.length ≤ 32 ∧ (t.link p).buffer = none ∧ t.kept = none)
        ∧ (32 < (s.link p).tx.length + 8 → exec (.requestTaken p) s = .next s))
    ∧ (∀ (p : PortId) (tag : Byte) (r : Request) (s : State), s.ready p →
      exec (onPort p tag r) s = exec (.requestTaken p) (s.setLink p { s.link p with buffer := some (tag, r) }))
    ∧ (∀ (p : PortId) (f : TxFrame) (rest : List TxFrame) (s : State), s.listening p = true → (s.link p).tx = f :: rest →
      let sent := s.setLink p { s.link p with tx := rest }
      ((s.link p).buffer = none ∨ 32 < rest.length + 8 ∨ s.pending.head? = some (.requestTaken p) →
        exec (.frameSent p) s = .next sent)
      ∧ ((s.link p).buffer ≠ none → rest.length + 8 ≤ 32 → s.pending.head? ≠ some (.requestTaken p) →
        exec (.frameSent p) s = exec (.requestTaken p) sent))

/-! ## Ports and policy (chapter 7) -/

/-- An ANNOUNCE that matches the entry on a port that is not BOUND makes a candidate; the second within two ticks counts 2; another
identity or a late one starts afresh; the third in a row binds the port. In the SCREEN role an OFFLINE lane then goes to IDLE where
its mark is clear, and to CLEARING with its countdown at Wt where it is set (R102, R151, R167). -/
def Obligations.AnnounceCountsAndBinds : Prop :=
  (∀ (n : LaneIx) (tag : Byte) (identity : Identity) (s : State), s.ready (.screen n) →
      (s.port n).entry.role ≠ .disabled → (s.port n).entry.matches identity = true →
        (((s.port n).state = .unbound
            ∨ ∃ known count spacing, (s.port n).state = .candidate known count spacing ∧ (known ≠ identity ∨ 2 < spacing)) →
          exec (.announce (.screen n) tag identity) s
            = .next ((s.setPortState n (.candidate identity 1 0)).place (.screen n)
                (.reply tag (.announce { state := 1, role := 0, count := 1 }))))
        ∧ (∀ spacing, (s.port n).state = .candidate identity 1 spacing → spacing ≤ 2 →
          exec (.announce (.screen n) tag identity) s
            = .next ((s.setPortState n (.candidate identity 2 0)).place (.screen n)
                (.reply tag (.announce { state := 1, role := 0, count := 2 })))))
    ∧ (∀ (n : LaneIx) (tag : Byte) (identity : Identity) (spacing : Nat) (s : State), s.ready (.screen n) →
      (s.port n).entry.role = .screen → (s.port n).entry.matches identity = true →
      (s.port n).state = .candidate identity 2 spacing → spacing ≤ 2 → (s.lane n).state = .offline →
        ∃ t, exec (.announce (.screen n) tag identity) s = .next t ∧ (t.port n).state = .bound identity
          ∧ t.sticky.getLsbD EventKind.portBound.code = true
          ∧ (t.link (.screen n)).tx.getLast? = some (.reply tag (.announce { state := 2, role := 1, count := 0 }))
          ∧ (((s.rel n).clearRequired = false → (t.lane n).state = .idle ∧ t.rel n = s.rel n)
              ∧ ((s.rel n).clearRequired = true → (t.lane n).state = .clearing
                  ∧ t.rel n = { s.rel n with clearing := some (s.lane n).wt }))
          ∧ (∀ m, m ≠ n → t.lane m = s.lane m ∧ t.rel m = s.rel m) ∧ t.keys = s.keys
          ∧ s.keepsRest t)

/-- Another identity on a port BOUND as SCREEN unbinds it: the show ends without a notice, and the lane is in QUARANTINE where it
holds a slot and OFFLINE where it holds none (R104, R168). -/
def Obligations.IdentityChangeCostsTheLane : Prop :=
  ∀ (n : LaneIx) (tag : Byte) (old identity : Identity) (s : State), s.ready (.screen n) →
    (s.port n).entry.role = .screen → (s.port n).state = .bound old → old ≠ identity → (s.lane n).state ≠ .quarantine →
      ∃ t, exec (.announce (.screen n) tag identity) s = .next t
        ∧ (t.port n).state = (if (s.port n).entry.matches identity = true then .candidate identity 1 0 else .unbound)
        ∧ (t.lane n).state = (if (s.rel n).holdings = [] then .offline else .quarantine)
        ∧ (t.lane n).active = none ∧ (t.lane n).pending = none ∧ (t.rel n).holdings = (s.rel n).holdings
        ∧ t.sticky.getLsbD EventKind.portUnbound.code = true
        ∧ (∃ rp, (t.link (.screen n)).tx = (s.link (.screen n)).tx ++ [.reply tag rp])
        ∧ (∀ m, m ≠ n → t.lane m = s.lane m ∧ t.rel m = s.rel m) ∧ t.keys = s.keys
        ∧ s.keepsRest t

/-- SET PORT writes the entry of a fitted port whose lane runs no show, while the lock is clear, and judges the port's state against it:
UNBOUND stays; CANDIDATE stays where the identity still matches an enabled entry; BOUND stays, with a lane bind or unbind notice where the
role changes, or becomes UNBOUND with PORT UNBOUND (R102, R103, R169). It is refused WRONG STATE while a show runs, and BAD FIELD for a
bad port, role or classes. LOCK POLICY sets the lock; while it is set a SET PORT in range is refused LOCKED and changes no entry (R170).
The layout of the replies: log 28. -/
def Obligations.SetPortWritesUntilLocked : Prop :=
  (∀ (n : LaneIx) (tag port role classes : Byte) (identity : Option Identity) (r : Role) (entry : Binding) (s written : State),
      s.ready .mgmt → laneOf port = some n → s.isFitted n = true → roleOf role = some r → classes.toNat < 4 →
      s.policyLock = false →
      entry = { identity := identity, role := r, showControl := classes.getLsbD 0, queries := classes.getLsbD 1 } →
      written = s.setPort n { s.port n with entry := entry } →
      let cmd := Instr.setPort .mgmt tag port identity role classes
      let replied (view : PortView) : TxFrame := .reply tag (.setPort entry view)
      let offline (l : Lane) : Lane := { l with
        state := .offline, active := none, pending := none, screenHold := false, siteHold := false, holdTimer := none,
        holdLimit := none, tickOwed := false }
      let unbound (rel : Release) : Release := { rel with
        outstanding := rel.outstanding.map (fun e => { e with countdown := none }), clearing := none
        clearRequired := rel.clearRequired || !rel.holdings.isEmpty }
      ((s.lane n).state.running = true →
        exec cmd s = .next (s.place .mgmt (.reply tag (.setPortRefused .wrongState (s.port n).view (s.lane n).state))))
      ∧ ((s.lane n).state.running = false →
        ((s.port n).state = .unbound →
          exec cmd s = .next (written.place .mgmt (replied { state := 0, role := 0, count := 0 })))
        ∧ (∀ known count spacing, (s.port n).state = .candidate known count spacing →
          (r ≠ .disabled → entry.matches known = true →
            exec cmd s = .next (written.place .mgmt (replied { state := 1, role := 0, count := count })))
          ∧ (r = .disabled ∨ entry.matches known = false →
            exec cmd s = .next ((written.setPortState n .unbound).place .mgmt (replied { state := 0, role := 0, count := 0 }))))
        ∧ (∀ known, (s.port n).state = .bound known →
          (r = (s.port n).entry.role → r ≠ .disabled → entry.matches known = true →
            exec cmd s = .next (written.place .mgmt (replied { state := 2, role := r.code, count := 0 })))
          ∧ (r = .disabled ∨ entry.matches known = false →
            ∃ t, exec cmd s = .next t ∧ t.port n = { s.port n with entry := entry, state := .unbound }
              ∧ t.sticky.getLsbD EventKind.portUnbound.code = true
              ∧ ((s.port n).entry.role = .screen → t.lane n = offline (s.lane n) ∧ t.rel n = unbound (s.rel n))
              ∧ ((s.port n).entry.role ≠ .screen → t.lane n = s.lane n ∧ t.rel n = s.rel n)
              ∧ t.mgmt.tx.getLast? = some (replied { state := 0, role := 0, count := 0 })
              ∧ (∀ m, m ≠ n → t.lane m = s.lane m ∧ t.rel m = s.rel m ∧ t.port m = s.port m) ∧ t.keys = s.keys
              ∧ written.keepsRest t)
          ∧ ((s.port n).entry.role = .screen → r = .observer → entry.matches known = true →
            exec cmd s = .next (((written.setLane n (offline (s.lane n))).setRel n (unbound (s.rel n))).place .mgmt
              (replied { state := 2, role := 2, count := 0 })))
          ∧ ((s.port n).entry.role = .observer → r = .screen → entry.matches known = true →
            ((s.lane n).state = .offline → (s.rel n).clearRequired = false →
              exec cmd s = .next ((written.setLane n { s.lane n with state := .idle }).place .mgmt
                (replied { state := 2, role := 1, count := 0 })))
            ∧ ((s.lane n).state = .offline → (s.rel n).clearRequired = true → (s.link (.screen n)).tx.length < 32 →
              exec cmd s = .next ((((written.place (.screen n) (.notice
                  (.clear (s.lane n).wt (s.rel n).holdings ((s.rel n).outstanding.map (fun e => e.serial))))).setRel n
                  { s.rel n with clearing := some (s.lane n).wt }).setLane n { s.lane n with state := .clearing }).place .mgmt
                (replied { state := 2, role := 1, count := 0 })))
            ∧ ((s.lane n).state ≠ .offline →
              exec cmd s = .next (written.place .mgmt (replied { state := 2, role := 1, count := 0 })))))))
    ∧ (∀ (tag port role classes : Byte) (identity : Option Identity) (s : State), s.ready .mgmt →
      (15 < port.toNat → exec (.setPort .mgmt tag port identity role classes) s
        = .next (s.place .mgmt (.reply tag (.plain 0x14 .badField))))
      ∧ (∀ n, laneOf port = some n → s.isFitted n = false ∨ roleOf role = none ∨ 4 ≤ classes.toNat →
        exec (.setPort .mgmt tag port identity role classes) s
          = .next (s.place .mgmt (.reply tag (.setPortRefused .badField (s.port n).view (s.lane n).state)))))
    ∧ (∀ (tag : Byte) (s : State), s.ready .mgmt →
      exec (.lockPolicy .mgmt tag) s = .next ({ s with policyLock := true }.place .mgmt (.reply tag (.plain 0x15 .accepted)))
        ∧ ∀ (n : LaneIx) (port role classes : Byte) (identity : Option Identity), s.policyLock = true → laneOf port = some n →
          s.isFitted n = true → (roleOf role).isSome = true → classes.toNat < 4 →
            exec (.setPort .mgmt tag port identity role classes) s
              = .next (s.place .mgmt (.reply tag (.setPortRefused .locked (s.port n).view (s.lane n).state))))

/-! ## Events and status (chapter 8) -/

/-- SET EVENT MASK writes all seventeen enables as given, or is refused where a position names no kind (R175). -/
def Obligations.SetEventMaskWritesEnables : Prop :=
  ∀ (tag : Byte) (kinds : KindMap) (s : State), s.ready .mgmt →
    (kinds.toNat < 2 ^ 17 → exec (.setEventMask .mgmt tag kinds) s
      = .next ({ s with mask := kinds.setWidth 17 }.place .mgmt (.reply tag (.setEventMask (kinds.setWidth 17)))))
    ∧ (2 ^ 17 ≤ kinds.toNat → exec (.setEventMask .mgmt tag kinds) s
      = .next (s.place .mgmt (.reply tag (.plain 0x1E .badField))))

/-- STATUS SUMMARY, CLOCK STATUS, LANE STATUS and KEY STATUS on the management port change nothing but the list their reply joins,
and carry what their owners hold (R43, R70, R107, R176). -/
def Obligations.QueriesOnlyReply : Prop :=
  ∀ (tag : Byte) (s : State), s.ready .mgmt →
    exec (.statusSummary .mgmt tag) s = .next (s.place .mgmt (.reply tag (.statusSummary (statusReport s))))
      ∧ exec (.clockStatus .mgmt tag) s = .next (s.place .mgmt (.reply tag (.clockStatus (clockReport s))))
      ∧ (∀ (n : LaneIx) (lane : Byte), laneOf lane = some n →
          exec (.laneStatus .mgmt tag lane) s = .next (s.place .mgmt (.reply tag (.laneStatus (laneReport n s)))))
      ∧ (∀ (slot : BitVec 16) (k : Key), slot.toNat < 512 → s.key slot.toNat = some k →
          exec (.keyStatus .mgmt tag slot) s
            = .next (s.place .mgmt (.reply tag (.keyStatus slot.toNat (some (keyReport slot.toNat k s))))))
      ∧ (∀ slot : BitVec 16, 512 ≤ slot.toNat →
          exec (.keyStatus .mgmt tag slot) s = .next (s.place .mgmt (.reply tag (.plain 0x13 .badField))))

/-- CLEAR STICKY clears the flags, key marks and lane marks it names and nothing else; with a slot above 511 or a position naming no
kind it is refused and clears nothing (R177). -/
def Obligations.ClearStickyClearsWhatItNames : Prop :=
  ∀ (tag : Byte) (kinds : KindMap) (lanes : ScreenMap) (slots : List (BitVec 16)) (s : State), s.ready .mgmt →
    (kinds.toNat < 2 ^ 17 → (∀ slot ∈ slots, slot.toNat < 512) →
      ∃ t, exec (.clearSticky .mgmt tag kinds lanes slots) s = .next t
        ∧ t.sticky = s.sticky &&& ~~~(kinds.setWidth 17)
        ∧ (∀ slot, t.key slot = if slots.any (fun x => x.toNat == slot) then (s.key slot).map (fun k => { k with mark := false })
            else s.key slot)
        ∧ (∀ n, t.lane n = { s.lane n with mark := (s.lane n).mark && !lanes.getLsbD n.val })
        ∧ t.releases = s.releases ∧ t.ports = s.ports ∧ t.clock = s.clock ∧ t.framer = s.framer ∧ s.keepsSettings t
        ∧ t.mgmt = { s.mgmt with tx := s.mgmt.tx ++ [.reply tag (.clearSticky t.sticky (markedKeys t) (markedLanes t))] })
    ∧ (2 ^ 17 ≤ kinds.toNat ∨ (∃ slot ∈ slots, 512 ≤ slot.toNat) →
      exec (.clearSticky .mgmt tag kinds lanes slots) s = .next (s.place .mgmt (.reply tag (.plain 0x1D .badField))))

/-- CLEAR COUNTERS sets the framer's, the ports' and the lanes' counters to 0 in one event, is answered ACCEPTED, and leaves openings
counts, error windows, degrade flags, sticky flags, marks, deadlines and countdowns (R178). -/
def Obligations.ClearCountersZeroesCounters : Prop :=
  ∀ (tag : Byte) (s : State), s.ready .mgmt →
    ∃ t, exec (.clearCounters .mgmt tag) s = .next t
      ∧ t.framer = { s.framer with counters :=
          { errored := 0, checkErrors := 0, mimics := 0, losses := 0, silences := 0, changes := 0 } }
      ∧ (∀ n, t.port n = { s.port n with link := { (s.port n).link with softErrors := 0, noticesLost := 0 } })
      ∧ t.mgmt = { s.mgmt with
          softErrors := 0, noticesLost := 0, tx := s.mgmt.tx ++ [.reply tag (.plain 0x1F .accepted)] }
      ∧ (∀ n, t.lane n = { s.lane n with shows := 0, timeouts := 0 })
      ∧ t.keys = s.keys ∧ t.releases = s.releases ∧ t.clock = s.clock ∧ t.sticky = s.sticky ∧ t.mask = s.mask
      ∧ t.policyLock = s.policyLock ∧ t.supply = s.supply ∧ t.siteHold = s.siteHold ∧ t.siteStableMs = s.siteStableMs

/-- The lamp is STEADY exactly where the part is at work, time is ASSURED and no lane is in QUARANTINE, and OFF exactly where the
part is not at work (R179). -/
def Obligations.LampFollowsTheTable : Prop :=
  ∀ s : State, (lamp s = .off ↔ s.running = false)
    ∧ (lamp s = .fast ↔ s.running = true ∧ (s.clock.time = .noTime ∨ s.clock.time = .unassured))
    ∧ (lamp s = .steady ↔ s.running = true ∧ s.clock.time = .assured ∧ ∀ n, (s.lane n).state ≠ .quarantine)

/-! ## Site time (chapter 2) -/

/-- SEED TIME in NO TIME gives the clock T, an uncertainty of 1 to 600 s, and HOLDOVER or UNASSURED by the ceiling; in any other time
state it is refused and changes nothing (R40). -/
def Obligations.SeedTimeSetsTheClock : Prop :=
  ∀ (tag : Byte) (value : BitVec 32) (uncertainty : BitVec 16) (s : State), s.ready .mgmt →
    (s.clock.time = .noTime →
      ∃ t, exec (.seedTime .mgmt tag value uncertainty) s = .next t
        ∧ t.clock = { s.clock with
            time := if s.clock.params.uc < max 1 (min 600 uncertainty.toNat) then .unassured else .holdover
            t := some value.toNat, u0 := 1000 * max 1 (min 600 uncertainty.toNat), acc := 0
            uMs := some (1000 * max 1 (min 600 uncertainty.toNat)), h := some 0 }
        ∧ t.sticky.getLsbD EventKind.timeState.code = true
        ∧ t.mgmt.tx.getLast? = some (.reply tag (.seedTime (max 1 (min 600 uncertainty.toNat)) t.clock.time))
        ∧ { s with clock := t.clock }.keepsRest t)
    ∧ (s.clock.time ≠ .noTime →
      exec (.seedTime .mgmt tag value uncertainty) s = .next (s.place .mgmt (.reply tag (.plain 0x18 .wrongState))))

/-- SET CLOCK PARAMETERS writes the present fields, clamped into their ranges, and keeps the absent ones; a written ceiling moves
HOLDOVER and UNASSURED to the side of it on which U stands (R38, R41). -/
def Obligations.SetClockParametersClamps : Prop :=
  ∀ (tag : Byte) (r uc : Option (BitVec 16)) (k e : Option Byte) (checkLoss : Option Bool) (failTime : Option Byte)
    (strict : Option Bool) (s : State), s.ready .mgmt →
      ∃ t, exec (.setClockParameters .mgmt tag r uc k e checkLoss failTime strict) s = .next t
        ∧ t.clock.params =
          { r := (r.map (fun v => max 1 (min 500 v.toNat))).getD s.clock.params.r
            uc := (uc.map (fun v => max 5 (min 600 v.toNat))).getD s.clock.params.uc
            k := (k.map (fun v => max 2 (min 4 v.toNat))).getD s.clock.params.k
            e := (e.map (fun v => max 2 (min 16 v.toNat))).getD s.clock.params.e
            checkLoss := checkLoss.getD s.clock.params.checkLoss
            failTime := (failTime.map (fun v => max 2 (min 120 v.toNat))).getD s.clock.params.failTime
            strict := strict.getD s.clock.params.strict }
        ∧ t.clock.time = (if uc.isSome = true ∧ (s.clock.time = .holdover ∨ s.clock.time = .unassured) then
            (if t.clock.params.uc < s.clock.u then .unassured else .holdover) else s.clock.time)
        ∧ t.clock = { s.clock with params := t.clock.params, time := t.clock.time }
        ∧ t.mgmt.tx.getLast? = some (.reply tag (.setClockParameters t.clock.params t.clock.time))
        ∧ { s with clock := t.clock }.keepsRest t

/-- An elapsed tick of a part at work reaches the framer, every fitted port and every lane, in each time state (R24): the fail timer
and the alarm (R19), the error windows and degrade flags, which take their lane's Dt, and the candidates' spacings (R162, R167), and,
where no countdown of the lane ends with it, R or the hold timer and the countdowns (R84, R97, R136, R148). The oscillator gives the
tick outside ASSURED, the superframe start in ASSURED (R23). The order of the receivers is log 4. -/
def Obligations.ElapsedTickReachesItsReceivers : Prop :=
  (∀ s : State, s.running = true → s.clock.time ≠ .assured → ∃ t, exec (.elapsedTick []) s = .next t ∧ s.tickReaches t)
    ∧ ∀ s : State, s.running = true → s.clock.time = .assured → s.framer.state = .aligned → s.framer.fresh = true →
      s.framer.superframePeriod = 0 → ∃ t, exec (.superframeStart []) s = .next t ∧ s.tickReaches t

/-! ## The Key Table (chapter 3) -/

/-- A LOAD KEY that meets the eight checks writes its record, judged at once where the time state lets it, and sends one KEY STATE with
cause LOADED; one that fails a check is refused with the earliest check's reason and changes nothing (R53, R54). The outcome of
unsealing is an operand (log 13). -/
def Obligations.LoadKeyWritesOrRefuses : Prop :=
  (∀ (tag : Byte) (slot : BitVec 16) (label : Label) (nb na : BitVec 32) (a : BitVec 16) (c : Byte) (screens : ScreenMap)
      (sealedMaterial : SealedMaterial) (material : Material) (s : State), s.ready .mgmt →
      slot.toNat < 512 → s.key slot.toNat = none → (∀ e ∈ s.keys, e.2.label ≠ label) → nb.toNat < na.toNat →
      a.toNat ≤ 7200 → c ≠ 0 → screens &&& fittedMap s.supply.fitted ≠ 0#16 →
      (s.clock.usable = true → s.clock.now < na.toNat + a.toNat + s.clock.u) →
        ∃ (state : KeyState) (k : Key),
          state = (if s.clock.usable = true ∧ na.toNat ≤ s.clock.now + s.clock.u then .closing
            else if s.clock.usable = true ∧ nb.toNat + s.clock.u ≤ s.clock.now then .opened else .waiting)
          ∧ k = { state := state, label := label, material := material, nb := nb.toNat, na := na.toNat, a := a.toNat,
                  screens := screens &&& fittedMap s.supply.fitted, c := min 16 c.toNat, openings := 0, mark := false,
                  expiredAt := none, revokedAt := none }
          ∧ exec (.loadKey .mgmt tag slot label nb na a c screens sealedMaterial (some material)) s
            = .next (((s.setKey slot.toNat k).raise (.keyState slot.toNat none (some state) .loaded)).place .mgmt
                (.reply tag (.loadKey slot.toNat (screens &&& fittedMap s.supply.fitted) (min 16 c.toNat) state))))
    ∧ (∀ (tag : Byte) (slot : BitVec 16) (label : Label) (nb na : BitVec 32) (a : BitVec 16) (c : Byte) (screens : ScreenMap)
      (sealedMaterial : SealedMaterial) (unsealed : Option Material) (s : State), s.ready .mgmt →
      let cmd := Instr.loadKey .mgmt tag slot label nb na a c screens sealedMaterial unsealed
      let refusedWith (reason : Answer) := exec cmd s = .next (s.place .mgmt (.reply tag (.plain 0x10 reason)))
      (512 ≤ slot.toNat → refusedWith .badField)
        ∧ (slot.toNat < 512 → (s.key slot.toNat).isSome = true → refusedWith .slotOccupied)
        ∧ (slot.toNat < 512 → s.key slot.toNat = none →
            ((∃ e ∈ s.keys, e.2.label = label) → refusedWith .duplicateLabel)
            ∧ ((∀ e ∈ s.keys, e.2.label ≠ label) →
                (na.toNat ≤ nb.toNat → refusedWith .windowInvalid)
                ∧ (nb.toNat < na.toNat → 7200 < a.toNat ∨ c = 0 ∨ screens &&& fittedMap s.supply.fitted = 0#16 →
                    refusedWith .badField)
                ∧ (nb.toNat < na.toNat → a.toNat ≤ 7200 → c ≠ 0 → screens &&& fittedMap s.supply.fitted ≠ 0#16 →
                    (unsealed = none → refusedWith .sealFailed)
                    ∧ (unsealed.isSome = true → s.clock.usable = true →
                        na.toNat + a.toNat + s.clock.u ≤ s.clock.now → refusedWith .windowPassed)))))

/-- REVOKE KEY of a WAITING, OPEN or CLOSING key makes it REVOKED with T as its revoked-at, changes no other slot, and leaves no running
show on it and no pending reel that names it; of an EXPIRED or REVOKED key, and of an EMPTY slot, it is refused (R62, R63). -/
def Obligations.RevokeKeyEndsItsShows : Prop :=
  ∀ (tag : Byte) (slot : BitVec 16) (s : State), s.ready .mgmt → slot.toNat < 512 →
    (∀ k, s.key slot.toNat = some k → k.state ≠ .expired → k.state ≠ .revoked →
      ∃ t, exec (.revokeKey .mgmt tag slot) s = .next t
        ∧ t.key slot.toNat = some { k with state := .revoked, revokedAt := s.clock.t }
        ∧ (∀ other, other ≠ slot.toNat → t.key other = s.key other)
        ∧ (∀ n, (t.lane n).state.running = true →
            (t.lane n).active.any (fun x => x.slot == slot.toNat) = false
              ∧ (t.lane n).pending.any (fun x => x.slot == slot.toNat) = false)
        ∧ (∀ n, (t.rel n).holdings = (s.rel n).holdings) ∧ s.keepsRest t
        ∧ t.mgmt.tx.getLast? = some (.reply tag (.revokeKey k.state s.clock.t)))
    ∧ (∀ k, s.key slot.toNat = some k → k.state = .expired ∨ k.state = .revoked →
      exec (.revokeKey .mgmt tag slot) s = .next (s.place .mgmt (.reply tag (.plain 0x11 .wrongState))))
    ∧ (s.key slot.toNat = none →
      exec (.revokeKey .mgmt tag slot) s = .next (s.place .mgmt (.reply tag (.plain 0x11 .slotEmpty))))

/-- PURGE KEY by the slot's state and holders: BAD FIELD out of range, SLOT EMPTY, HELD with the holder set, and otherwise the slot is
EMPTY, with a KEY STATE of cause PURGED and a reply of the previous state and final openings count (R65). -/
def Obligations.PurgeKeyEmptiesTheSlot : Prop :=
  ∀ (tag : Byte) (slot : BitVec 16) (s : State), s.ready .mgmt →
    (512 ≤ slot.toNat → exec (.purgeKey .mgmt tag slot) s = .next (s.place .mgmt (.reply tag (.plain 0x12 .badField))))
    ∧ (slot.toNat < 512 → s.key slot.toNat = none →
        exec (.purgeKey .mgmt tag slot) s = .next (s.place .mgmt (.reply tag (.plain 0x12 .slotEmpty))))
    ∧ (∀ k, slot.toNat < 512 → s.key slot.toNat = some k → 0 < s.holderCount slot.toNat →
        exec (.purgeKey .mgmt tag slot) s = .next (s.place .mgmt (.reply tag (.purgeHeld (s.holderMap slot.toNat)))))
    ∧ (∀ k, slot.toNat < 512 → s.key slot.toNat = some k → s.holderCount slot.toNat = 0 →
        ∃ t : State, exec (.purgeKey .mgmt tag slot) s
            = .next ((t.raise (.keyState slot.toNat (some k.state) none .purged)).place .mgmt
                (.reply tag (.purgeKey k.state k.openings)))
          ∧ t = { s with keys := t.keys } ∧ t.key slot.toNat = none
          ∧ ∀ other, other ≠ slot.toNat → t.key other = s.key other)

/-! ## Opening checks and grants (chapters 5 and 6) -/

/-- A new start passes the opening check exactly where every step of R112 does: link, key, label, state, authorisation, time, window
begun, end not reached, run-out kept, and a place under the concurrency limit; and where one does not, the first in that order gives the
refusal (R109, R112 to R122). A continuation passes exactly where its steps do, without the link, the end of the window and the place
(R112, R125). -/
def Obligations.NewStartPassesExactlyWhen : Prop :=
  (∀ (n : LaneIx) (slot : Nat) (label : Label) (d : Nat) (s : State),
    (openingCheck false n slot label d s).refusal = none ↔
      (s.port n).degraded = false ∧ ∃ k, s.key slot = some k ∧ k.label = label ∧ k.state ≠ .revoked ∧ k.state ≠ .expired
        ∧ k.screens.getLsbD n.val = true ∧ (s.clock.time = .assured ∨ s.clock.time = .holdover)
        ∧ k.nb + s.clock.u ≤ s.clock.now ∧ s.clock.now + s.clock.u < k.na ∧ s.clock.now + s.clock.u + d ≤ k.na + k.a
        ∧ (slot ∈ (s.rel n).holdings ∨ s.holderCount slot < k.c))
    ∧ (∀ (n : LaneIx) (slot : Nat) (label : Label) (d : Nat) (s : State),
      let refusedWith (reason : Answer) := (openingCheck false n slot label d s).refusal = some reason
      ((s.port n).degraded = true → refusedWith .linkDegraded)
      ∧ ((s.port n).degraded = false →
        (s.key slot = none → refusedWith .noKey)
        ∧ ∀ k, s.key slot = some k →
          (k.label ≠ label → refusedWith .keyChanged)
          ∧ (k.label = label →
            (k.state = .revoked → refusedWith .revoked) ∧ (k.state = .expired → refusedWith .expired)
            ∧ (k.state ≠ .revoked → k.state ≠ .expired →
              (k.screens.getLsbD n.val = false → refusedWith .notAuthorized)
              ∧ (k.screens.getLsbD n.val = true →
                (s.clock.time = .noTime ∨ s.clock.time = .unassured → refusedWith .timeUnassured)
                ∧ (s.clock.time = .assured ∨ s.clock.time = .holdover →
                  (s.clock.now < k.nb + s.clock.u → refusedWith .notYet)
                  ∧ (k.nb + s.clock.u ≤ s.clock.now →
                    (k.na ≤ s.clock.now + s.clock.u → refusedWith .tooLate)
                    ∧ (s.clock.now + s.clock.u < k.na →
                      (k.na + k.a < s.clock.now + s.clock.u + d → refusedWith .runsPast)
                      ∧ (s.clock.now + s.clock.u + d ≤ k.na + k.a → slot ∉ (s.rel n).holdings → k.c ≤ s.holderCount slot →
                        refusedWith .oversubscribed)))))))))
    ∧ (∀ (n : LaneIx) (slot : Nat) (label : Label) (d : Nat) (s : State),
      (openingCheck true n slot label d s).refusal = none ↔
        ∃ k, s.key slot = some k ∧ k.label = label ∧ k.state ≠ .revoked ∧ k.state ≠ .expired
          ∧ k.screens.getLsbD n.val = true ∧ (s.clock.time = .assured ∨ s.clock.time = .holdover)
          ∧ k.nb + s.clock.u ≤ s.clock.now ∧ s.clock.now + s.clock.u + d ≤ k.na + k.a)

/-- The serial a new grant takes is carried by no outstanding entry, and is never 0, where at most four entries are outstanding (R130). -/
def Obligations.TakenSerialIsFree : Prop :=
  ∀ r : Release, r.outstanding.length ≤ 4 → 1 ≤ r.nextSerial → r.nextSerial ≤ 65535 →
    1 ≤ r.takenSerial ∧ r.takenSerial ≤ 65535 ∧ ∀ e ∈ r.outstanding, e.serial ≠ r.takenSerial

/-! ## Lanes and reels (chapter 4) -/

/-- QUEUE REEL in IDLE that passes its check: under a released site hold the lane is PLAYING the reel under the next free serial, under an
asserted one it is HELD by the site with its timer at 0; the slot is held, the key's openings count rises, and RELEASE goes out before
the reply (R81, R95, R131, R132). Refused by its check the lane stays IDLE and nothing is granted; OVERSUBSCRIBED also sets the key's and
the lane's mark and sends one event (R81, R123). In PLAYING or HELD a reel that passes the static checks becomes the pending reel, in
place of any other (R82). Elsewhere, and with a slot or D out of range, it is refused (R80). -/
def Obligations.QueueReelStartsOrStores : Prop :=
  (∀ (n : LaneIx) (tag : Byte) (slot : BitVec 16) (label : Label) (d : BitVec 16) (tie : Bool) (reelTag : ReelTag) (k : Key)
      (identity : Identity) (s : State), s.readyShow n → (s.lane n).state = .idle → slot.toNat < 512 → 1 ≤ d.toNat →
      d.toNat ≤ 14400 → s.key slot.toNat = some k → (openingCheck false n slot.toNat label d.toNat s).refusal = none →
      s.siteHold = false ∨ 0 < (s.lane n).l → (s.port n).state = .bound identity →
        ∃ t, exec (.queueReel (.screen n) tag slot label d tie reelTag) s = .next t
          ∧ (s.siteHold = false → t.lane n = { s.lane n with
              state := .playing
              active := some { slot := slot.toNat, label := label, tag := reelTag, r := d.toNat, serial := (s.rel n).takenSerial } })
          ∧ (s.siteHold = true → t.lane n = { s.lane n with
              state := .held, screenHold := false, siteHold := true, holdTimer := some 0, holdLimit := some (s.lane n).l
              active := some { slot := slot.toNat, label := label, tag := reelTag, r := d.toNat, serial := (s.rel n).takenSerial } })
          ∧ t.rel n = { s.rel n with
              nextSerial := nextSerialAfter (s.rel n).takenSerial, holdings := insertSlot slot.toNat (s.rel n).holdings }
          ∧ t.key slot.toNat = some { k with openings := min 65535 (k.openings + 1) }
          ∧ (∀ other, other ≠ slot.toNat → t.key other = s.key other)
          ∧ (t.link (.screen n)).tx = (s.link (.screen n)).tx ++
              [.notice (.release (s.rel n).takenSerial slot.toNat k.label k.material identity reelTag d.toNat (k.na + k.a)),
               .reply tag (.queueReel .accepted (if s.siteHold = true then .held else .playing) (s.rel n).takenSerial 0
                 (some (openingCheck false n slot.toNat label d.toNat s)))]
          ∧ (∀ m, m ≠ n → t.lane m = s.lane m ∧ t.rel m = s.rel m ∧ t.port m = s.port m) ∧ s.keepsRest t
          ∧ t.mgmt = s.mgmt ∧ t.sticky = s.sticky)
    ∧ (∀ (n : LaneIx) (tag : Byte) (slot : BitVec 16) (label : Label) (d : BitVec 16) (tie : Bool) (reelTag : ReelTag) (reason : Answer)
      (s : State), s.readyShow n → (s.lane n).state = .idle → slot.toNat < 512 → 1 ≤ d.toNat → d.toNat ≤ 14400 →
      (openingCheck false n slot.toNat label d.toNat s).refusal = some reason →
      let cmd := Instr.queueReel (.screen n) tag slot label d tie reelTag
      let replied : TxFrame :=
        .reply tag (.queueReel reason .idle 0 0 (some (openingCheck false n slot.toNat label d.toNat s)))
      (reason ≠ .oversubscribed → exec cmd s = .next (s.place (.screen n) replied))
      ∧ (∀ k, reason = .oversubscribed → s.key slot.toNat = some k →
        ∃ t, exec cmd s = .next t ∧ t.lane n = { s.lane n with mark := true } ∧ t.releases = s.releases
          ∧ t.key slot.toNat = some { k with mark := true } ∧ (∀ other, other ≠ slot.toNat → t.key other = s.key other)
          ∧ t.sticky.getLsbD EventKind.oversubscribed.code = true
          ∧ (s.mask.getLsbD EventKind.oversubscribed.code = true → s.mgmt.tx.length < 32 →
              t.mgmt = { s.mgmt with tx := s.mgmt.tx ++
                [.notice (.event s.clock.t (.oversubscribed slot.toNat n (s.holderMap slot.toNat) k.c))] })
          ∧ (t.link (.screen n)).tx = (s.link (.screen n)).tx ++ [replied]
          ∧ (∀ m, m ≠ n → t.lane m = s.lane m ∧ t.port m = s.port m) ∧ s.keepsRest t))
    ∧ (∀ (n : LaneIx) (tag : Byte) (slot : BitVec 16) (label : Label) (d : BitVec 16) (tie : Bool) (reelTag : ReelTag) (k : Key)
      (s : State), s.readyShow n → ((s.lane n).state = .playing ∨ (s.lane n).state = .held) → slot.toNat < 512 → 1 ≤ d.toNat →
      d.toNat ≤ 14400 → s.key slot.toNat = some k → k.label = label → k.state ≠ .revoked → k.state ≠ .expired →
      k.screens.getLsbD n.val = true →
        exec (.queueReel (.screen n) tag slot label d tie reelTag) s
          = .next ((s.setLane n { s.lane n with
                pending := some { slot := slot.toNat, label := label, d := d.toNat, tie := tie, tag := reelTag } }).place
              (.screen n) (.reply tag (match (s.lane n).pending with
                | none => .queueReel .accepted (s.lane n).state 0 0 none
                | some old => .queueReel .replaced (s.lane n).state 0 old.tag none))))
    ∧ (∀ (n : LaneIx) (tag : Byte) (slot : BitVec 16) (label : Label) (d : BitVec 16) (tie : Bool) (reelTag : ReelTag) (s : State),
      s.readyShow n →
      (512 ≤ slot.toNat ∨ d = 0 ∨ 14400 < d.toNat →
        exec (.queueReel (.screen n) tag slot label d tie reelTag) s
          = .next (s.place (.screen n) (.reply tag (.queueReel .badField (s.lane n).state 0 0 none))))
      ∧ (slot.toNat < 512 → 1 ≤ d.toNat → d.toNat ≤ 14400 →
        (s.lane n).state = .offline ∨ (s.lane n).state = .clearing ∨ (s.lane n).state = .quarantine →
        exec (.queueReel (.screen n) tag slot label d tie reelTag) s
          = .next (s.place (.screen n) (.reply tag (.queueReel .laneUnavailable (s.lane n).state 0 0 none)))))

/-- STOP SHOW in PLAYING or HELD: with a place on the list the grant is withdrawn and the lane is IDLE; with four entries the lane is in
QUARANTINE and its slot stays held; elsewhere it is refused (R77, R90, R135). -/
def Obligations.StopShowEndsTheShow : Prop :=
  ∀ (n : LaneIx) (tag : Byte) (s : State), s.readyShow n →
    (∀ a, (s.lane n).state.running = true → (s.lane n).active = some a → (s.rel n).outstanding.length < 4 →
      ∃ t, exec (.stopShow (.screen n) tag) s = .next t
        ∧ t.lane n = { s.lane n with
            state := .idle, active := none, pending := none, screenHold := false, siteHold := false, holdTimer := none,
            holdLimit := none, tickOwed := false }
        ∧ t.rel n = { s.rel n with outstanding := (s.rel n).outstanding ++
            [{ serial := a.serial, slot := a.slot, countdown := some (s.lane n).wt }] }
        ∧ (t.link (.screen n)).tx = (s.link (.screen n)).tx ++
            [.notice (.withdraw a.serial a.slot),
             .notice (.showEnded a.tag a.serial .stopped a.r ((s.lane n).pending.map (fun p => p.tag)) s.clock.t),
             .reply tag (.stopShow .accepted .idle)]
        ∧ (∀ m, m ≠ n → t.lane m = s.lane m ∧ t.rel m = s.rel m ∧ t.port m = s.port m) ∧ t.keys = s.keys
        ∧ s.keepsRest t ∧ t.mgmt = s.mgmt ∧ t.sticky = s.sticky)
    ∧ (∀ a, (s.lane n).state.running = true → (s.lane n).active = some a → 4 ≤ (s.rel n).outstanding.length →
      ∃ t, exec (.stopShow (.screen n) tag) s = .next t ∧ (t.lane n).state = .quarantine ∧ (t.lane n).active = none
        ∧ (t.rel n).holdings = (s.rel n).holdings
        ∧ (t.rel n).outstanding = (s.rel n).outstanding.map (fun e => { e with countdown := none })
        ∧ t.sticky.getLsbD EventKind.laneQuarantined.code = true
        ∧ (t.link (.screen n)).tx.getLast? = some (.reply tag (.stopShow .accepted .quarantine)) ∧ t.keys = s.keys
        ∧ (∀ m, m ≠ n → t.lane m = s.lane m ∧ t.rel m = s.rel m ∧ t.port m = s.port m) ∧ s.keepsRest t)
    ∧ ((s.lane n).state.running = false →
      exec (.stopShow (.screen n) tag) s
        = .next (s.place (.screen n) (.reply tag (.stopShow .wrongState (s.lane n).state))))

/-- HOLD SHOW in PLAYING enters HELD with the timer at 0 and the hold limit taken from L, where L is above 0; in HELD it sets the screen
flag alone (R91). RESUME SHOW with no site hold re-checks the end bound, and a pass puts the lane back in PLAYING; under a site hold
the lane stays HELD and nothing is re-checked (R92, R93, R126). With L at 0 HOLD SHOW ends the show at once with reason HOLD LIMIT,
and a re-check that refuses ends it with its reason; both requests are still answered ACCEPTED (R91 to R93, R97). The values
in that reply of HOLD SHOW are those after the end (the model's choice, logs 33 and 34). Elsewhere both are refused. -/
def Obligations.HoldAndResumeShow : Prop :=
  (∀ (n : LaneIx) (tag : Byte) (s : State), s.readyShow n →
      ((s.lane n).state = .playing → 0 < (s.lane n).l →
        exec (.holdShow (.screen n) tag) s
          = .next ((s.setLane n { s.lane n with
                state := .held, screenHold := true, siteHold := false, holdTimer := some 0, holdLimit := some (s.lane n).l }).place
              (.screen n) (.reply tag (.holdShow true false (some 0) .held))))
      ∧ ((s.lane n).state = .held →
        exec (.holdShow (.screen n) tag) s
          = .next ((s.setLane n { s.lane n with screenHold := true }).place (.screen n)
              (.reply tag (.holdShow true (s.lane n).siteHold (s.lane n).holdTimer .held))))
      ∧ ((s.lane n).state.running = false →
        exec (.holdShow (.screen n) tag) s = .next (s.place (.screen n) (.reply tag (.plain 0x04 .wrongState))))
      ∧ (∀ a, (s.lane n).state = .playing → (s.lane n).l = 0 → (s.lane n).active = some a →
        ∃ t, exec (.holdShow (.screen n) tag) s = .next t
          ∧ s.showEnds t n (s.lane n) a .holdLimit [.reply tag (.holdShow false false none (s.endedState n))]
          ∧ (∀ m, m ≠ n → t.lane m = s.lane m ∧ t.rel m = s.rel m ∧ t.port m = s.port m) ∧ t.keys = s.keys
          ∧ s.keepsRest t))
    ∧ (∀ (n : LaneIx) (tag : Byte) (s : State), s.readyShow n →
      (∀ (a : ActiveReel) (k : Key), (s.lane n).state = .held → (s.lane n).screenHold = true → (s.lane n).siteHold = false →
          (s.lane n).active = some a → s.key a.slot = some k → k.label = a.label → k.state ≠ .revoked → k.state ≠ .expired →
          s.clock.usable = true → s.clock.now + s.clock.u + a.r ≤ k.na + k.a →
        exec (.resumeShow (.screen n) tag) s
          = .next ((s.setLane n { s.lane n with
                state := .playing, screenHold := false, holdTimer := none, holdLimit := none }).place
              (.screen n) (.reply tag (.resumeShow (.ran none) .playing s.clock.t s.clock.uReported))))
      ∧ ((s.lane n).state = .held → (s.lane n).screenHold = true → (s.lane n).siteHold = true →
        exec (.resumeShow (.screen n) tag) s
          = .next ((s.setLane n { s.lane n with screenHold := false }).place (.screen n)
              (.reply tag (.resumeShow .notRun .held none none))))
      ∧ ((s.lane n).state ≠ .held ∨ (s.lane n).screenHold = false →
        exec (.resumeShow (.screen n) tag) s = .next (s.place (.screen n) (.reply tag (.plain 0x05 .wrongState))))
      ∧ (∀ (a : ActiveReel) (reason : Answer), (s.lane n).state = .held → (s.lane n).screenHold = true →
          (s.lane n).siteHold = false → (s.lane n).active = some a → s.recheckRefuses a reason →
        let reads : Bool := reason == .timeUnassured || reason == .runsPast
        ∃ t, exec (.resumeShow (.screen n) tag) s = .next t
          ∧ s.showEnds t n (s.lane n) a (.refused reason) [.reply tag (.resumeShow (.ran (some reason)) (s.endedState n)
              (if reads then s.clock.t else none) (if reads then s.clock.uReported else none))]
          ∧ (∀ m, m ≠ n → t.lane m = s.lane m ∧ t.rel m = s.rel m ∧ t.port m = s.port m) ∧ t.keys = s.keys
          ∧ s.keepsRest t))

/-- A boundary with no pending reel ends the show COMPLETE, with the grant withdrawn where the list has a place and the show counted
(R85, R86). One whose pending reel is tied to the same slot and label and passes its check goes on under the same grant with the
new tag and D (R87). With four entries on the list a completed show ends in QUARANTINE and is not counted, and a continuation that
its check refuses ends the show with the check's reason (R77, R86, R87). The lane's share of the tick is a command of its own where
the queue asks for it (log 4). -/
def Obligations.BoundaryCompletesOrContinues : Prop :=
  (∀ (n : LaneIx) (a : ActiveReel) (s : State), s.running = true → (s.lane n).tickOwed = true → (s.lane n).state = .playing →
      (s.lane n).active = some a → a.r = 1 → (s.lane n).pending = none → (s.rel n).outstanding.length < 4 →
        ∃ t, exec (.boundary n) s = .next t
          ∧ t.lane n = { s.lane n with
              state := .idle, active := none, pending := none, screenHold := false, siteHold := false, holdTimer := none,
              holdLimit := none, tickOwed := false, shows := min 65535 ((s.lane n).shows + 1) }
          ∧ t.rel n = { s.rel n with outstanding := (s.rel n).outstanding ++
              [{ serial := a.serial, slot := a.slot, countdown := some (s.lane n).wt }] }
          ∧ (s.isFitted n = true → (s.port n).state.isBound = true → (s.link (.screen n)).tx.length + 2 ≤ 32 → s.kept = none →
              (t.link (.screen n)).tx = (s.link (.screen n)).tx ++
                [.notice (.withdraw a.serial a.slot), .notice (.showEnded a.tag a.serial .complete 0 none s.clock.t)])
          ∧ (∀ m, m ≠ n → t.lane m = s.lane m ∧ t.rel m = s.rel m ∧ t.port m = s.port m) ∧ t.keys = s.keys
          ∧ s.keepsRest t)
    ∧ (∀ (n : LaneIx) (a : ActiveReel) (p : PendingReel) (s : State), s.running = true → (s.lane n).tickOwed = true →
      (s.lane n).state = .playing → (s.lane n).active = some a → a.r = 1 → (s.lane n).pending = some p → p.tie = true →
      p.slot = a.slot → p.label = a.label → (openingCheck true n a.slot p.label p.d s).refusal = none →
        ∃ t, exec (.boundary n) s = .next t
          ∧ t.lane n = { s.lane n with active := some { a with tag := p.tag, r := p.d }, pending := none, tickOwed := false }
          ∧ (∀ m, t.rel m = s.rel m) ∧ (∀ m, m ≠ n → t.lane m = s.lane m) ∧ t.keys = s.keys ∧ s.keepsRest t
          ∧ (s.isFitted n = true → (s.link (.screen n)).tx.length + 1 ≤ 32 → s.kept = none →
              (t.link (.screen n)).tx = (s.link (.screen n)).tx ++ [.notice (.bufferFree .loaded p.tag (some a.serial))]))
    ∧ (∀ (n : LaneIx) (a : ActiveReel) (s : State), s.running = true → (s.lane n).tickOwed = true → (s.lane n).state = .playing →
      (s.lane n).active = some a → a.r = 1 → (s.lane n).pending = none → 4 ≤ (s.rel n).outstanding.length →
        ∃ t, exec (.boundary n) s = .next t ∧ s.showEnds t n (s.lane n) { a with r := 0 } .complete []
          ∧ (∀ m, m ≠ n → t.lane m = s.lane m ∧ t.rel m = s.rel m ∧ t.port m = s.port m) ∧ t.keys = s.keys
          ∧ s.keepsRest t)
    ∧ (∀ (n : LaneIx) (a : ActiveReel) (p : PendingReel) (reason : Answer) (s : State), s.running = true →
      (s.lane n).tickOwed = true → (s.lane n).state = .playing → (s.lane n).active = some a → a.r = 1 →
      (s.lane n).pending = some p → p.tie = true → p.slot = a.slot → p.label = a.label →
      (openingCheck true n a.slot p.label p.d s).refusal = some reason →
        ∃ t, exec (.boundary n) s = .next t ∧ s.showEnds t n (s.lane n) { a with r := 0 } (.refused reason) []
          ∧ (∀ m, m ≠ n → t.lane m = s.lane m ∧ t.rel m = s.rel m ∧ t.port m = s.port m) ∧ t.keys = s.keys
          ∧ s.keepsRest t)

/-- A boundary whose pending reel is no continuation and passes its check with a place on the list: the old grant is withdrawn, a new
grant under a free serial is issued, and WITHDRAW, RELEASE and BUFFER FREE go out in that order (R79, R88, R131). With four entries
on the list nothing is released and the lane is in QUARANTINE, its slot still held (R88, R101, R135). Where the check refuses, the show
ends with its reason, and OVERSUBSCRIBED sets the marks and sends its event, before any other event (log 29) (R88, R123). -/
def Obligations.BoundaryChangesTheGrant : Prop :=
  (∀ (n : LaneIx) (a : ActiveReel) (p : PendingReel) (k : Key) (identity : Identity) (s : State), s.running = true →
    (s.lane n).tickOwed = true → (s.lane n).state = .playing → (s.lane n).active = some a → a.r = 1 →
    (s.lane n).pending = some p → continues p a = false → s.key p.slot = some k →
    (openingCheck false n p.slot p.label p.d s).refusal = none → (s.rel n).outstanding.length < 4 →
    s.isFitted n = true → (s.port n).state = .bound identity → (s.link (.screen n)).tx.length + 3 ≤ 32 → s.kept = none →
      ∃ (t : State) (withdrawn : Release) (serial : Nat), exec (.boundary n) s = .next t
        ∧ withdrawn = { s.rel n with outstanding := (s.rel n).outstanding ++
            [{ serial := a.serial, slot := a.slot, countdown := some (s.lane n).wt }] }
        ∧ serial = withdrawn.takenSerial
        ∧ t.lane n = { s.lane n with
            active := some { slot := p.slot, label := p.label, tag := p.tag, r := p.d, serial := serial }
            pending := none, tickOwed := false }
        ∧ t.rel n = { withdrawn with
            nextSerial := nextSerialAfter serial, holdings := insertSlot p.slot (s.rel n).holdings }
        ∧ t.key p.slot = some { k with openings := min 65535 (k.openings + 1) }
        ∧ (∀ other, other ≠ p.slot → t.key other = s.key other)
        ∧ (t.link (.screen n)).tx = (s.link (.screen n)).tx ++
            [.notice (.withdraw a.serial a.slot),
             .notice (.release serial p.slot k.label k.material identity p.tag p.d (k.na + k.a)),
             .notice (.bufferFree .loaded p.tag (some serial))]
        ∧ (∀ m, m ≠ n → t.lane m = s.lane m ∧ t.rel m = s.rel m) ∧ s.keepsRest t
        ∧ t.mgmt = s.mgmt ∧ t.sticky = s.sticky)
    ∧ (∀ (n : LaneIx) (a : ActiveReel) (p : PendingReel) (s : State), s.running = true → (s.lane n).tickOwed = true →
      (s.lane n).state = .playing → (s.lane n).active = some a → a.r = 1 → (s.lane n).pending = some p → continues p a = false →
      (openingCheck false n p.slot p.label p.d s).refusal = none → 4 ≤ (s.rel n).outstanding.length →
        ∃ t, exec (.boundary n) s = .next t ∧ s.showEnds t n (s.lane n) { a with r := 0 } .quarantine []
          ∧ (∀ m, m ≠ n → t.lane m = s.lane m ∧ t.rel m = s.rel m ∧ t.port m = s.port m) ∧ t.keys = s.keys
          ∧ s.keepsRest t)
    ∧ (∀ (n : LaneIx) (a : ActiveReel) (p : PendingReel) (reason : Answer) (s : State), s.running = true →
      (s.lane n).tickOwed = true → (s.lane n).state = .playing → (s.lane n).active = some a → a.r = 1 →
      (s.lane n).pending = some p → continues p a = false → (openingCheck false n p.slot p.label p.d s).refusal = some reason →
        ∃ t, exec (.boundary n) s = .next t
          ∧ s.showEnds t n { s.lane n with mark := (s.lane n).mark || reason == .oversubscribed } { a with r := 0 }
              (.refused reason) []
          ∧ (reason ≠ .oversubscribed → t.keys = s.keys)
          ∧ (∀ k, reason = .oversubscribed → s.key p.slot = some k →
              t.key p.slot = some { k with mark := true } ∧ (∀ other, other ≠ p.slot → t.key other = s.key other)
              ∧ t.sticky.getLsbD EventKind.oversubscribed.code = true
              ∧ (s.mask.getLsbD EventKind.oversubscribed.code = true → s.mgmt.tx.length < 32 → s.kept = none →
                  s.mgmt.tx ++ [.notice (.event s.clock.t (.oversubscribed p.slot n (s.holderMap p.slot) k.c))] <+: t.mgmt.tx))
          ∧ (∀ m, m ≠ n → t.lane m = s.lane m ∧ t.rel m = s.rel m ∧ t.port m = s.port m) ∧ s.keepsRest t)

/-- The hold timer reaches the hold limit taken: the show ends with a withdrawal and reason HOLD LIMIT, and with four entries on the
list in QUARANTINE (R77, R97, R135). -/
def Obligations.HoldLimitEndsTheShow : Prop :=
  ∀ (n : LaneIx) (a : ActiveReel) (timer limit : Nat) (s : State), s.running = true → (s.lane n).tickOwed = true →
    (s.lane n).state = .held → (s.lane n).active = some a → (s.lane n).holdTimer = some timer →
    (s.lane n).holdLimit = some limit → timer + 1 = limit →
      ∃ t, exec (.holdLimit n) s = .next t ∧ s.showEnds t n (s.lane n) a .holdLimit []
        ∧ (∀ m, m ≠ n → t.lane m = s.lane m ∧ t.rel m = s.rel m ∧ t.port m = s.port m) ∧ t.keys = s.keys ∧ s.keepsRest t

/-- A change of the hold line's level restarts the stability measurement (R94). Held asserted for 200 ms, every PLAYING lane with L above 0
enters HELD by the site and every HELD lane sets its site flag (R95), and one with L at 0 ends its show with reason HOLD LIMIT (R97);
held released for 200 ms, no lane keeps a site flag, and a HELD lane without a screen flag plays on where its re-check passes and
ends its show with the reason where it refuses (R93, R96). Milliseconds are commands' operands (log 22). -/
def Obligations.SiteHoldHoldsAndFrees : Prop :=
  (∀ (asserted : Bool) (s : State), s.supply.siteLine ≠ asserted →
      exec (.siteHoldLineChange asserted) s
        = .next { s with supply := { s.supply with siteLine := asserted }, siteStableMs := 0 })
    ∧ (∀ (ms : Nat) (s : State), s.running = true → s.supply.siteLine = true → s.siteHold = false → 200 ≤ s.siteStableMs + ms →
      (∀ n, (s.lane n).state = .playing → 0 < (s.lane n).l) →
        ∃ t, exec (.siteHoldAssertion ms) s = .next t ∧ t.siteHold = true
          ∧ (∀ n, (s.lane n).state = .playing → t.lane n = { s.lane n with
              state := .held, screenHold := false, siteHold := true, holdTimer := some 0, holdLimit := some (s.lane n).l })
          ∧ (∀ n, (s.lane n).state = .held → t.lane n = { s.lane n with siteHold := true })
          ∧ (∀ n, (s.lane n).state.running = false → t.lane n = s.lane n)
          ∧ t.releases = s.releases ∧ t.keys = s.keys ∧ t.ports = s.ports ∧ t.mgmt = s.mgmt
          ∧ t.sticky = s.sticky ∧ { s with siteHold := true, siteStableMs := 200 }.keepsRest t)
    ∧ (∀ (ms : Nat) (s : State), s.running = true → s.supply.siteLine = true → s.siteHold = false → 200 ≤ s.siteStableMs + ms →
      ∃ t, exec (.siteHoldAssertion ms) s = .next t
        ∧ (∀ n a, (s.lane n).state = .playing → (s.lane n).l = 0 → (s.lane n).active = some a →
            s.showEnds t n (s.lane n) a .holdLimit [])
        ∧ (∀ n, (s.lane n).state = .playing → 0 < (s.lane n).l → t.rel n = s.rel n ∧ t.port n = s.port n ∧ t.lane n = { s.lane n with
            state := .held, screenHold := false, siteHold := true, holdTimer := some 0, holdLimit := some (s.lane n).l })
        ∧ (∀ n, (s.lane n).state = .held →
            t.rel n = s.rel n ∧ t.port n = s.port n ∧ t.lane n = { s.lane n with siteHold := true })
        ∧ (∀ n, (s.lane n).state.running = false → t.rel n = s.rel n ∧ t.port n = s.port n ∧ t.lane n = s.lane n)
        ∧ t.keys = s.keys ∧ { s with siteHold := true, siteStableMs := 200 }.keepsRest t)
    ∧ (∀ (ms : Nat) (s : State), s.running = true → s.supply.siteLine = false → s.siteHold = true → 200 ≤ s.siteStableMs + ms →
      ∃ t, exec (.siteHoldRelease ms) s = .next t ∧ t.siteHold = false ∧ (∀ n, (t.lane n).siteHold = false)
        ∧ (∀ n, (s.lane n).state = .held → (s.lane n).screenHold = true → t.lane n = { s.lane n with siteHold := false })
        ∧ (∀ n a, (s.lane n).state = .held → (s.lane n).siteHold = true → (s.lane n).screenHold = false →
            (s.lane n).active = some a → recheck a s = none →
              t.lane n = { s.lane n with state := .playing, siteHold := false, holdTimer := none, holdLimit := none })
        ∧ (∀ n a reason, (s.lane n).state = .held → (s.lane n).siteHold = true → (s.lane n).screenHold = false →
            (s.lane n).active = some a → s.recheckRefuses a reason → s.showEnds t n (s.lane n) a (.refused reason) [])
        ∧ (∀ n, (s.lane n).state.running = false → t.lane n = { s.lane n with siteHold := false } ∧ t.rel n = s.rel n)
        ∧ t.keys = s.keys ∧ { s with siteHold := false, siteStableMs := 200 }.keepsRest t)

/-- SET LANE PARAMETERS writes the present values, clamped, for one fitted lane or for all of them, and is refused for any other (R105). -/
def Obligations.SetLaneParametersClamps : Prop :=
  ∀ (tag lane : Byte) (wt : Option Byte) (l : Option (BitVec 16)) (dt : Option Byte) (s : State), s.ready .mgmt →
    let written (n : LaneIx) : Lane := { s.lane n with
      wt := (wt.map (fun v => max 2 (min 30 v.toNat))).getD (s.lane n).wt
      l := (l.map (fun v => max 0 (min 3600 v.toNat))).getD (s.lane n).l
      dt := (dt.map (fun v => max 1 (min 255 v.toNat))).getD (s.lane n).dt }
    (∀ n, laneOf lane = some n → s.isFitted n = true →
      exec (.setLaneParameters .mgmt tag lane wt l dt) s
        = .next ((s.setLane n (written n)).place .mgmt
            (.reply tag (.setLaneParameters [((written n).wt, (written n).l, (written n).dt)]))))
    ∧ (lane = 0xFF → ∃ t, exec (.setLaneParameters .mgmt tag lane wt l dt) s = .next t
        ∧ (∀ n, t.lane n = if s.isFitted n = true then written n else s.lane n)
        ∧ t.releases = s.releases ∧ t.ports = s.ports ∧ t.keys = s.keys ∧ t.clock = s.clock
        ∧ t.framer = s.framer ∧ t.supply = s.supply ∧ t.mask = s.mask ∧ t.sticky = s.sticky ∧ t.policyLock = s.policyLock)
    ∧ (lane ≠ 0xFF → (∀ n, laneOf lane = some n → s.isFitted n = false) →
      exec (.setLaneParameters .mgmt tag lane wt l dt) s = .next (s.place .mgmt (.reply tag (.plain 0x17 .badField))))

/-! ## Release, withdrawal and quarantine (chapter 6) -/

/-- Entries whose countdown has reached 0 on a lane in service each count one, and the lane enters QUARANTINE once, with every entry kept,
every countdown cancelled and the holdings as they were (R137, R144). The end of the clearing countdown does the same and counts no
withdrawal (R148). -/
def Obligations.TimeoutsQuarantineTheLane : Prop :=
  (∀ (n : LaneIx) (s : State), s.running = true → (s.lane n).state.inService = true → (s.rel n).timedOut ≠ [] →
      ∃ t, exec (.withdrawalTimeout n) s = .next t ∧ (t.lane n).state = .quarantine ∧ (t.lane n).active = none
        ∧ (t.lane n).timeouts = min 65535 ((s.lane n).timeouts + (s.rel n).timedOut.length)
        ∧ t.rel n = { s.rel n with
            outstanding := (s.rel n).outstanding.map (fun e => { e with countdown := none }), clearing := none }
        ∧ t.sticky.getLsbD EventKind.laneQuarantined.code = true
        ∧ (∀ m, m ≠ n → t.lane m = s.lane m ∧ t.rel m = s.rel m) ∧ t.keys = s.keys ∧ s.keepsRest t)
    ∧ (∀ (n : LaneIx) (s : State), s.running = true → (s.lane n).state = .clearing → (s.rel n).clearing = some 0 →
      ∃ t, exec (.clearingTimeout n) s = .next t ∧ (t.lane n).state = .quarantine
        ∧ (t.lane n).timeouts = (s.lane n).timeouts
        ∧ t.rel n = { s.rel n with
            outstanding := (s.rel n).outstanding.map (fun e => { e with countdown := none }), clearing := none }
        ∧ t.sticky.getLsbD EventKind.laneQuarantined.code = true
        ∧ (∀ m, m ≠ n → t.lane m = s.lane m ∧ t.rel m = s.rel m ∧ t.port m = s.port m) ∧ t.keys = s.keys
        ∧ s.keepsRest t)

/-- ERASED of an outstanding entry removes it; in service its slot leaves the holdings unless another grant names it, and in CLEARING and
QUARANTINE it stays (R138). ERASED of the active grant ends the show with reason SCREEN ERASED and no withdrawal (R139). A serial that
names nothing is UNKNOWN GRANT and changes nothing (R140). -/
def Obligations.ErasedConfirmsOneGrant : Prop :=
  (∀ (n : LaneIx) (tag : Byte) (serial : BitVec 16) (e : Entry) (s : State), s.readyScreen n → serial.toNat ≠ 0 →
      (s.rel n).outstanding.find? (fun x => x.serial == serial.toNat) = some e →
        ∃ rest holdings,
          rest = (s.rel n).outstanding.filter (fun x => x.serial != serial.toNat)
          ∧ holdings = (if (s.lane n).state.inService = true ∧ (∀ x ∈ rest, x.slot ≠ e.slot)
              ∧ (∀ a, (s.lane n).active = some a → a.slot ≠ e.slot) then (s.rel n).holdings.filter (fun x => x != e.slot)
              else (s.rel n).holdings)
          ∧ exec (.erased (.screen n) tag serial) s
            = .next ((s.setRel n { s.rel n with outstanding := rest, holdings := holdings }).place (.screen n)
                (.reply tag (.erased .accepted (some .outstanding) (s.lane n).state holdings))))
    ∧ (∀ (n : LaneIx) (tag : Byte) (serial : BitVec 16) (s : State), s.readyScreen n →
      (∀ e ∈ (s.rel n).outstanding, e.serial ≠ serial.toNat) →
      (∀ a, serial.toNat ≠ 0 → (s.lane n).state.running = true → (s.lane n).active = some a → a.serial = serial.toNat →
        ∃ t, exec (.erased (.screen n) tag serial) s = .next t ∧ (t.lane n).state = .idle ∧ (t.lane n).active = none
          ∧ t.rel n = { s.rel n with holdings := if (∀ e ∈ (s.rel n).outstanding, e.slot ≠ a.slot) then
              (s.rel n).holdings.filter (fun x => x != a.slot) else (s.rel n).holdings }
          ∧ (t.link (.screen n)).tx = (s.link (.screen n)).tx ++
              [.notice (.showEnded a.tag a.serial .screenErased a.r ((s.lane n).pending.map (fun p => p.tag)) s.clock.t),
               .reply tag (.erased .accepted (some .active) .idle (t.rel n).holdings)]
          ∧ (∀ m, m ≠ n → t.lane m = s.lane m ∧ t.rel m = s.rel m ∧ t.port m = s.port m) ∧ t.keys = s.keys
          ∧ s.keepsRest t ∧ t.mgmt = s.mgmt ∧ t.sticky = s.sticky)
      ∧ (serial.toNat = 0 ∨ (s.lane n).state.running = false ∨ (∀ a, (s.lane n).active = some a → a.serial ≠ serial.toNat) →
        exec (.erased (.screen n) tag serial) s
          = .next (s.place (.screen n) (.reply tag (.erased .unknownGrant none (s.lane n).state (s.rel n).holdings)))))

/-- ERASED ALL in CLEARING completes the clearing: list, holdings, mark and countdown are gone, the lane is IDLE and LANE CLEARED goes
out (R141); in IDLE, PLAYING and HELD list and holdings are emptied and the lane is IDLE (R142). -/
def Obligations.ErasedAllEmptiesTheLane : Prop :=
  ∀ (n : LaneIx) (tag : Byte) (s : State), s.readyScreen n →
    ((s.lane n).state = .clearing →
      ∃ t, exec (.erasedAll (.screen n) tag) s = .next t ∧ t.lane n = { s.lane n with state := .idle }
        ∧ t.rel n = { s.rel n with outstanding := [], holdings := [], clearRequired := false, clearing := none }
        ∧ t.sticky.getLsbD EventKind.laneCleared.code = true
        ∧ (t.link (.screen n)).tx = (s.link (.screen n)).tx ++
            [.reply tag (.erasedAll .accepted .idle (some (s.rel n).holdings))]
        ∧ (∀ m, m ≠ n → t.lane m = s.lane m ∧ t.rel m = s.rel m) ∧ t.keys = s.keys ∧ s.keepsRest t)
    ∧ ((s.lane n).state.inService = true →
      ∃ t, exec (.erasedAll (.screen n) tag) s = .next t ∧ (t.lane n).state = .idle
        ∧ t.rel n = { s.rel n with outstanding := [], holdings := [] }
        ∧ ((s.lane n).state = .idle → t.lane n = s.lane n)
        ∧ (t.link (.screen n)).tx.getLast? = some (.reply tag (.erasedAll .accepted .idle (some (s.rel n).holdings)))
        ∧ (∀ m, m ≠ n → t.lane m = s.lane m ∧ t.rel m = s.rel m) ∧ t.keys = s.keys ∧ t.mgmt = s.mgmt ∧ t.sticky = s.sticky
        ∧ s.keepsRest t)

/-- ERASED ALL in QUARANTINE is refused WRONG STATE with the lane state, and lane, list, holdings and mark stay (R143). -/
def Obligations.ErasedAllIsRefusedInQuarantine : Prop :=
  ∀ (n : LaneIx) (tag : Byte) (s : State), s.readyScreen n → (s.lane n).state = .quarantine →
    exec (.erasedAll (.screen n) tag) s
      = .next (s.place (.screen n) (.reply tag (.erasedAll .wrongState .quarantine none)))

/-- RESTORE LANE of a quarantined lane whose port is BOUND as SCREEN: CLEAR goes to that port, the countdown starts at Wt, the lane is
CLEARING, holdings, entries and mark stay; in every other case it is refused WRONG STATE, and BAD FIELD above lane 15 (R146, R147). -/
def Obligations.RestoreLaneStartsAClearing : Prop :=
  (∀ (n : LaneIx) (tag lane : Byte) (s : State), s.ready .mgmt → laneOf lane = some n →
    ((s.lane n).state = .quarantine → (s.port n).boundScreen = true → s.isFitted n = true →
        (s.link (.screen n)).tx.length < 32 →
      ∃ t, exec (.restoreLane .mgmt tag lane) s = .next t ∧ t.lane n = { s.lane n with state := .clearing }
        ∧ t.rel n = { s.rel n with clearing := some (s.lane n).wt }
        ∧ (t.link (.screen n)).tx = (s.link (.screen n)).tx ++
            [.notice (.clear (s.lane n).wt (s.rel n).holdings ((s.rel n).outstanding.map (fun e => e.serial)))]
        ∧ t.mgmt = { s.mgmt with tx := s.mgmt.tx ++ [.reply tag (.restoreLane (s.rel n).holdings (s.lane n).wt)] }
        ∧ (∀ m, m ≠ n → t.lane m = s.lane m ∧ t.rel m = s.rel m ∧ t.port m = s.port m) ∧ t.keys = s.keys
        ∧ s.keepsRest t ∧ t.sticky = s.sticky)
    ∧ ((s.lane n).state ≠ .quarantine ∨ (s.port n).boundScreen = false →
      exec (.restoreLane .mgmt tag lane) s
        = .next (s.place .mgmt (.reply tag (.laneRefused 0x1A .wrongState (s.lane n).state (s.port n).view)))))
    ∧ ∀ (tag lane : Byte) (s : State), s.ready .mgmt → 15 < lane.toNat →
      exec (.restoreLane .mgmt tag lane) s = .next (s.place .mgmt (.reply tag (.plain 0x1A .badField)))

/-- VOID HOLDINGS: BAD FIELD above lane 15; taken in QUARANTINE, CLEARING and OFFLINE where the port is not BOUND as SCREEN, when it
empties holdings and list, clears the mark, ends the countdown and makes the lane OFFLINE with no notice and no event; refused WRONG
STATE in every other case (R150). -/
def Obligations.VoidHoldingsWritesOff : Prop :=
  ∀ (tag lane : Byte) (s : State), s.ready .mgmt →
    (15 < lane.toNat → exec (.voidHoldings .mgmt tag lane) s = .next (s.place .mgmt (.reply tag (.plain 0x1B .badField))))
    ∧ (∀ n, laneOf lane = some n →
        ((s.lane n).state = .quarantine ∨ (s.lane n).state = .clearing ∨ (s.lane n).state = .offline) →
        (s.port n).boundScreen = false →
      exec (.voidHoldings .mgmt tag lane) s
        = .next (((s.setRel n { s.rel n with
              outstanding := [], holdings := [], clearRequired := false, clearing := none }).setLane n
            { s.lane n with state := .offline }).place .mgmt
            (.reply tag (.voidHoldings (s.rel n).holdings ((s.rel n).outstanding.map (fun e => e.serial))))))
    ∧ (∀ n, laneOf lane = some n →
        ((s.lane n).state = .idle ∨ (s.lane n).state = .playing ∨ (s.lane n).state = .held ∨ (s.port n).boundScreen = true) →
      exec (.voidHoldings .mgmt tag lane) s
        = .next (s.place .mgmt (.reply tag (.laneRefused 0x1B .wrongState (s.lane n).state (s.port n).view))))

/-! ## Supplies and start-up (chapter 9) -/

/-- Main fails. What has come due is done first (the model's choice, log 32). The clock then leaves ASSURED for HOLDOVER with u0 at the
present u_ms, and keeps everything else but the memory and the miss count (R44); the Key Table keeps its records, but for the evaluation
on that notice (R71); holdings stay; what main supplied is at its reset values while main is absent (R181; the model's choice, log 21).
No tick is lost: a start mark that is due in ASSURED is the tick, and where the oscillator has passed its second and the mark has not
come, its next cycle is the tick (R23, R181). The validity marker becomes bad where the Retained Domain's supply falls with main absent,
and nothing else changes (R182). -/
def Obligations.MainPowerFailKeepsTheRetainedDomain : Prop :=
  (∀ s : State, s.supply.mainOn = true →
      let d := settleDue s
      ∃ t, exec .mainPowerFail s = .next t ∧ t.supply.mainOn = false ∧ t.supply.markerGood = s.supply.markerGood
        ∧ (d.clock.time = .assured → t.clock = { d.clock with
            time := .holdover, u0 := d.clock.uMs.getD 0, acc := 0, h := some 0, miss := 0, prev := none })
        ∧ (d.clock.time ≠ .assured → t.clock = { d.clock with miss := 0, prev := none } ∧ t.keys = d.keys)
        ∧ (d.clock.time = .assured → t.keys = (evaluate { d with supply := t.supply, clock := t.clock }).keys)
        ∧ (∀ n, (t.rel n).holdings = (d.rel n).holdings) ∧ (∀ n, (t.lane n).active = none)
        ∧ (∀ p, (t.link p).tx = []) ∧ (∀ n, (t.port n).state = .unbound) ∧ lamp t = .off)
    ∧ (∀ (s : State) (tm : Nat), s.running = true → s.framer.nextStart = false → s.framer.missingRun < 32 →
      s.framer.state = .aligned → s.framer.fresh = true → s.framer.superframePeriod = 0 → s.clock.time = .assured →
      s.clock.t = some tm →
        ∃ t, exec .mainPowerFail s = .next t ∧ t.clock = { s.clock with
          osc := 0, t := some (min 4294967295 (tm + 1)), floor := max s.clock.floor (min 4294967295 (tm + 1) - s.clock.u)
          time := .holdover, u0 := s.clock.uMs.getD 0, acc := 0, h := some 0, miss := 0, prev := none })
    ∧ (∀ (s : State) (tm : Nat), s.supply.mainOn = true → s.supply.markerGood = true → s.pending = [] → settleDue s = s →
      s.clock.time = .assured → s.clock.t = some tm → 32768 ≤ s.clock.osc + 1 →
        ∃ t u, exec .mainPowerFail s = .next t ∧ step t = .next u ∧ u.clock.t = some (min 4294967295 (tm + 1))
          ∧ u.clock.h = some 1 ∧ u.clock.osc = s.clock.osc + 1 - 32768)
    ∧ (∀ s : State, (s.supply.mainOn = false →
        exec .validityMarkerBad s = .next { s with supply := { s.supply with markerGood := false } })
      ∧ (s.supply.mainOn = true → exec .validityMarkerBad s = .next s))

/-- Main returns. With the reset input released and a good marker keys, holdings and the time go forward as they were, every lane is
OFFLINE and marked where it holds a slot, the straps are read, and nothing is reported (R45, R71, R108, R152, R183, R185). With a bad
one the Retained Domain is cleared as a whole and BACKUP LOST is the one frame on the management port (R46, R72, R153, R180, R182).
With the reset input asserted the part is held in main reset, and a BACKUP LOST that is owed goes out at the input's release (R183). -/
def Obligations.MainPowerUpReadsTheMarker : Prop :=
  (∀ (fit1 fit0 : Bool) (s : State), s.supply.mainOn = false → s.supply.markerGood = true → s.supply.resetPin = false →
      s.supply.backupLostOwed = false → s.clock.time ≠ .assured →
        ∃ t, exec (.mainPowerUp fit1 fit0) s = .next t ∧ t.running = true
          ∧ t.supply.fitted = (if fit1 then (if fit0 then 16 else 12) else if fit0 then 8 else 4)
          ∧ t.keys = s.keys ∧ t.clock = { s.clock with prev := none, miss := 0, regress := false }
          ∧ (∀ n, t.lane n = Lane.afterReset) ∧ (∀ n, (t.rel n).holdings = (s.rel n).holdings)
          ∧ (∀ n, (t.rel n).clearRequired = !(s.rel n).holdings.isEmpty)
          ∧ (∀ n, (t.rel n).outstanding = [] ∧ (t.rel n).nextSerial = 1) ∧ t.sticky = 0#17 ∧ t.mgmt.tx = []
          ∧ t.policyLock = false)
    ∧ (∀ (fit1 fit0 : Bool) (s : State), s.supply.mainOn = false → s.supply.markerGood = false → s.supply.resetPin = false →
      ∃ t, exec (.mainPowerUp fit1 fit0) s = .next t ∧ t.running = true ∧ t.supply.markerGood = true ∧ t.keys = []
        ∧ (∀ n, t.rel n = Release.clear) ∧ (∀ n, t.lane n = Lane.afterReset) ∧ t.clock = Clock.cleared
        ∧ t.sticky = EventKind.backupLost.bit ∧ t.mgmt.tx = [.notice (.event none .backupLost)] ∧ lamp t = .fast)
    ∧ (∀ (fit1 fit0 : Bool) (s : State), s.supply.mainOn = false → s.supply.resetPin = true →
      ∃ t, exec (.mainPowerUp fit1 fit0) s = .next t ∧ t.running = false ∧ t.supply.mainOn = true ∧ t.supply.markerGood = true
        ∧ t.supply.fitted = s.supply.fitted ∧ t.mgmt.tx = [] ∧ t.sticky = 0#17 ∧ lamp t = .off
        ∧ (∀ n, t.lane n = Lane.afterReset)
        ∧ (s.supply.markerGood = true → s.clock.time ≠ .assured →
            t.keys = s.keys ∧ t.clock = { s.clock with prev := none, miss := 0, regress := false }
            ∧ (∀ n, (t.rel n).holdings = (s.rel n).holdings ∧ (t.rel n).clearRequired = !(s.rel n).holdings.isEmpty))
        ∧ (s.supply.markerGood = false → t.keys = [] ∧ t.clock = Clock.cleared ∧ (∀ n, t.rel n = Release.clear)
            ∧ ∃ u, exec (.resetRelease fit1 fit0) t = .next u ∧ u.running = true
              ∧ u.supply.fitted = (if fit1 then (if fit0 then 16 else 12) else if fit0 then 8 else 4)
              ∧ u.sticky = EventKind.backupLost.bit ∧ u.mgmt.tx = [.notice (.event none .backupLost)] ∧ lamp u = .fast))

/-- Assertion of the reset input with main present applies main reset, takes the clock out of ASSURED without an event, and keeps the blocks
in reset; a second assertion has no effect (R45, R184). What has come due is done first (the model's choice, log 32). Its release
reads the straps, and the blocks begin work as they stood, with the BACKUP LOST that a power-up may owe (R183 to R185). -/
def Obligations.ResetInputHoldsThePart : Prop :=
  (∀ s : State, s.supply.mainOn = true → s.supply.resetPin = false →
      let d := settleDue s
      ∃ t, exec .resetAssert s = .next t ∧ t.running = false ∧ t.supply.resetPin = true
        ∧ t.clock = { d.clock with
            time := if d.clock.time = .assured then .holdover else d.clock.time
            u0 := if d.clock.time = .assured then d.clock.uMs.getD 0 else d.clock.u0
            acc := if d.clock.time = .assured then 0 else d.clock.acc
            h := if d.clock.time = .assured then some 0 else d.clock.h
            miss := 0, prev := none, regress := false }
        ∧ (d.clock.time ≠ .assured → t.keys = d.keys)
        ∧ (d.clock.time = .assured → t.keys = (evaluate { d with supply := t.supply, clock := t.clock }).keys)
        ∧ (∀ n, t.lane n = Lane.afterReset)
        ∧ (∀ n, (t.rel n).holdings = (d.rel n).holdings) ∧ (∀ n, t.port n = ScreenPort.afterReset) ∧ t.mgmt = Link.afterReset
        ∧ t.sticky = 0#17 ∧ t.mask = BitVec.allOnes 17 ∧ lamp t = .off ∧ exec .resetAssert t = .next t)
    ∧ (∀ (fit1 fit0 : Bool) (s : State), s.supply.mainOn = true → s.supply.resetPin = true → s.supply.inReset = true →
      let begun : State := { s with supply := { s.supply with
        resetPin := false, inReset := false, backupLostOwed := false
        fitted := if fit1 then (if fit0 then 16 else 12) else if fit0 then 8 else 4 } }
      (s.supply.backupLostOwed = false → exec (.resetRelease fit1 fit0) s = .next begun)
        ∧ (s.supply.backupLostOwed = true → exec (.resetRelease fit1 fit0) s = .next (begun.raise .backupLost)))

/-! ## The reference line (chapter 1) -/

/-- The end of a bit period at which no instant of the line is still due: the bit is invalid without a start transition, 1 with a
mid-period one and 0 without; history, line phase and missing-transition run advance, and in SILENT the clean window grows or is
discarded (R1, R3). An instant that is due is taken first (log 3), and the grid's edges are log 8: the model's choices. -/
def Obligations.BitPeriodEndClassifiesTheBit : Prop :=
  ∀ s : State, s.lineQuiet →
    ∃ f : Framer, exec .bitPeriodEnd s = .next (s.setFramer f)
      ∧ f.history = (if s.framer.startSeen = false then .invalid else if s.framer.midSeen = true then .one else .zero)
          :: s.framer.history.take 127
      ∧ f.linePhase = (s.framer.linePhase + 1) % 128
      ∧ f.missingRun = (if s.framer.startSeen = true then 0 else s.framer.missingRun + 1)
      ∧ f.clean = (if s.framer.state = .silent ∧ s.framer.startSeen = true then s.framer.clean + 1 else 0)
      ∧ f.gridPhase = 0 ∧ f.startSeen = s.framer.nextStart ∧ f.midSeen = false ∧ f.nextStart = false
      ∧ f.state = s.framer.state ∧ f.lossWindow = s.framer.lossWindow ∧ f.lastPosition = s.framer.lastPosition
      ∧ f.counters = s.framer.counters ∧ f.failTimer = s.framer.failTimer ∧ f.alarm = s.framer.alarm
      ∧ f.candidate.map (fun c => (c.position, c.age)) = s.framer.candidate.map (fun c => (c.position, c.age + 1))

/-- A transition inside the present period: within a quarter of its boundary it is the period-start transition and re-phases the grid,
between the quarters it is a mid-period transition, and near the next boundary it starts the next period (R1). -/
def Obligations.TransitionsMarkThePeriod : Prop :=
  ∀ (ns : Nat) (s : State), s.running = true → s.framer.nextStart = false →
    (4 * (s.framer.gridPhase + ns) < 7812500 → s.framer.startSeen = false →
      exec (.referenceLineTransition ns) s = .next (s.setFramer { s.framer with startSeen := true, gridPhase := 0 }))
    ∧ (7812500 < 4 * (s.framer.gridPhase + ns) → 4 * (s.framer.gridPhase + ns) < 3 * 7812500 →
      exec (.referenceLineTransition ns) s
        = .next (s.setFramer { s.framer with midSeen := true, gridPhase := s.framer.gridPhase + ns }))
    ∧ (3 * 7812500 < 4 * (s.framer.gridPhase + ns) → s.framer.gridPhase + ns < 7812500 →
      exec (.referenceLineTransition ns) s = .next (s.setFramer { s.framer with nextStart := true, gridPhase := 0 }))

/-- A missing-transition run of 32 puts the framer in SILENT and counts one silence; out of ALIGNED it also takes an ASSURED clock into
HOLDOVER (R2, R33, R34). A clean window of 64 periods ends SILENT (R3). -/
def Obligations.SilenceEntersAndCleanWindowLeaves : Prop :=
  ∀ s : State, s.running = true →
    (32 ≤ s.framer.missingRun → s.framer.state ≠ .silent → s.framer.state ≠ .aligned →
      exec .silenceEntry s = .next (s.setFramer { s.framer with
        state := .silent, candidate := none, clean := 0, fresh := false,
        counters := { s.framer.counters with silences := min 65535 (s.framer.counters.silences + 1) } }))
    ∧ (32 ≤ s.framer.missingRun → s.framer.state = .aligned →
      ∃ t, exec .silenceEntry s = .next t
        ∧ t.framer = { s.framer with
            state := .silent, awaiting := none, heldBytes := none, lossWindow := [], checkEnds := 0, checkFails := 0,
            failTimer := 0, clean := 0, fresh := false,
            counters := { s.framer.counters with silences := min 65535 (s.framer.counters.silences + 1) } }
        ∧ t.clock = (if s.clock.time = .assured then { s.clock with
            time := .holdover, u0 := s.clock.uMs.getD 0, acc := 0, h := some 0, miss := 0, prev := none }
            else { s.clock with prev := none })
        ∧ { s with framer := t.framer, clock := t.clock }.keepsRest t)
    ∧ (s.framer.state = .silent → 64 ≤ s.framer.clean →
      exec .cleanWindow s = .next (s.setFramer { s.framer with
        state := .search, missingRun := 0, clean := 0, fresh := false }))

/-- A pattern match in SEARCH is the candidate position, and the strict setting is taken with it (R6); a match at a wrong offset in CONFIRM
counts a mimic, and drops the candidate with strict acquisition on (R7, R8). The instants are commands of their own (log 3), and the
position is the line phase of the period that ended, (linePhase + 127) mod 128 (log 9, DEDUCED). -/
def Obligations.CandidateAndItsMimics : Prop :=
  ∀ s : State, s.running = true → s.framer.fresh = true → s.framer.patternMatch = true →
    (s.framer.state = .search →
      exec .candidatePosition s = .next (s.setFramer { s.framer with
        state := .confirm, fresh := false,
        candidate := some
          { position := (s.framer.linePhase + 127) % 128, age := 0, strict := s.clock.params.strict, gathered := none } }))
    ∧ (∀ c, s.framer.state = .confirm → s.framer.candidate = some c → 0 < c.age →
      (c.strict = false → c.age < 128 → exec .mimic s = .next (s.setFramer { s.framer with
        fresh := false,
        counters := { s.framer.counters with mimics := min 65535 (s.framer.counters.mimics + 1) } }))
      ∧ (c.strict = true → c.age < 304 → c.age ≠ 128 → c.age ≠ 256 → exec .mimic s = .next (s.setFramer { s.framer with
        state := .search, candidate := none, fresh := false,
        counters := { s.framer.counters with mimics := min 65535 (s.framer.counters.mimics + 1) } })))

/-- The test at p + 128 with strict acquisition off: without a match the candidate is dropped; with one, alignment is declared, the windows
are empty, K, E and check-loss are taken up, and an alarm clears with REFERENCE RESTORED (R7, R9, R13, R19). -/
def Obligations.ConfirmTestDeclaresAlignment : Prop :=
  ∀ (c : Candidate) (s : State), s.running = true → s.framer.state = .confirm → s.framer.fresh = true →
    s.framer.candidate = some c → c.strict = false → c.age = 128 →
    (s.framer.patternMatch = false →
      exec .confirmTest s = .next (s.setFramer { s.framer with state := .search, candidate := none, fresh := false }))
    ∧ (s.framer.patternMatch = true →
      ∃ t, exec .confirmTest s = .next t ∧ t.framer.state = .aligned
        ∧ t.framer.lastPosition = some ((c.position + 72) % 128) ∧ t.framer.lossWindow = [] ∧ t.framer.checkEnds = 0
        ∧ t.framer.checkFails = 0 ∧ t.framer.kTaken = s.clock.params.k ∧ t.framer.eTaken = s.clock.params.e
        ∧ t.framer.checkLossTaken = s.clock.params.checkLoss ∧ t.framer.awaiting = none ∧ t.framer.alarm = false
        ∧ t.framer.counters.changes = (if s.framer.lastPosition = none ∨ s.framer.lastPosition = some ((c.position + 72) % 128)
            then s.framer.counters.changes else min 65535 (s.framer.counters.changes + 1))
        ∧ (s.framer.alarm = true → t.sticky.getLsbD EventKind.referenceRestored.code = true)
        ∧ { s with framer := t.framer }.keepsRest t ∧ t.keys = s.keys ∧ t.lanes = s.lanes ∧ t.releases = s.releases ∧ t.ports = s.ports)

/-- The tests with strict acquisition on: at p + 128 and p + 256 a match lets the candidate stand and its want drops it; at p + 304 a
passing check declares alignment and delivers the superframe, and any other drops the candidate (R8, R9, R18). -/
def Obligations.StrictConfirmTestsTheCandidate : Prop :=
  ∀ (c : Candidate) (lanesFirst : Bool) (s : State), s.running = true → s.framer.state = .confirm → s.framer.fresh = true →
    s.framer.candidate = some c → c.strict = true →
    (c.age = 128 ∨ c.age = 256 →
      exec (.strictConfirmTest lanesFirst) s = .next (s.setFramer (if s.framer.patternMatch = true then
        { s.framer with fresh := false } else { s.framer with state := .search, candidate := none, fresh := false })))
    ∧ (c.age = 304 → s.framer.strictCheck c = none →
      exec (.strictConfirmTest lanesFirst) s
        = .next (s.setFramer { s.framer with state := .search, candidate := none, fresh := false }))
    ∧ (∀ covered, c.age = 304 → s.framer.strictCheck c = some covered →
      ∃ t, exec (.strictConfirmTest lanesFirst) s = .next t ∧ t.framer.state = .aligned
        ∧ t.framer.lastPosition = some ((c.position + 72) % 128) ∧ t.framer.lastSource = some (sourceId covered)
        ∧ t.framer.lastQuality = some (quality covered) ∧ t.framer.alarm = false
        ∧ t.clock.prev = some (timeWord covered) ∧ { s with framer := t.framer, clock := t.clock }.keepsRest t)

/-- A superframe start takes up K, E and check-loss; outside ASSURED it does nothing else, and in ASSURED it is the elapsed tick: T
advances, the floor rises to T − U, and the uncertainty stays (R10, R13, R23, R24, R39). -/
def Obligations.SuperframeStartIsTheTickInAssured : Prop :=
  ∀ (apart : List TickPart) (s : State), s.running = true → s.framer.state = .aligned → s.framer.fresh = true →
    s.framer.superframePeriod = 0 →
    (s.clock.time ≠ .assured →
      exec (.superframeStart apart) s = .next (s.setFramer { s.framer with
        kTaken := s.clock.params.k, eTaken := s.clock.params.e, checkLossTaken := s.clock.params.checkLoss, fresh := false }))
    ∧ (∀ tm, s.clock.time = .assured → s.clock.t = some tm →
      ∃ t, exec (.superframeStart apart) s = .next t ∧ t.framer.kTaken = s.clock.params.k
        ∧ t.framer.eTaken = s.clock.params.e ∧ t.framer.checkLossTaken = s.clock.params.checkLoss
        ∧ t.clock = { s.clock with
            osc := 0, t := some (min 4294967295 (tm + 1)),
            floor := max s.clock.floor (min 4294967295 (tm + 1) - s.clock.u) }
        ∧ s.keepsSettings t)

/-- The alignment test marks the superframe errored where the pattern does not match; below K marks in the last eight alignment stays, and
at K it is lost: SEARCH, one loss counted, the fail timer from 0, and an ASSURED clock in HOLDOVER (R11, R14, R33). -/
def Obligations.AlignmentTestJudgesTheSuperframe : Prop :=
  ∀ (window : List Bool) (counters : FramerCounters) (s : State), s.running = true → s.framer.state = .aligned →
    s.framer.fresh = true → s.framer.superframePeriod = 57 →
    window = ((!s.framer.patternMatch) :: s.framer.lossWindow).take 8 →
    counters = (if s.framer.patternMatch = true then s.framer.counters else
      { s.framer.counters with errored := min 65535 (s.framer.counters.errored + 1) }) →
    ((window.filter id).length < s.framer.kTaken →
      exec .alignmentTest s = .next (s.setFramer { s.framer with
        lossWindow := window, counters := counters, fresh := false }))
    ∧ (s.framer.kTaken ≤ (window.filter id).length →
      ∃ t, exec .alignmentTest s = .next t
        ∧ t.framer = { s.framer with
            state := .search, awaiting := none, heldBytes := none, lossWindow := [], checkEnds := 0, checkFails := 0,
            failTimer := 0, fresh := false,
            counters := { counters with losses := min 65535 (counters.losses + 1) } }
        ∧ t.clock.time = (if s.clock.time = .assured then .holdover else s.clock.time) ∧ t.clock.prev = none
        ∧ t.clock.t = s.clock.t ∧ { s with framer := t.framer, clock := t.clock }.keepsRest t)

/-- A superframe end: with no superframe awaiting its check the clock has no candidate, and in ASSURED counts a miss or, at the third,
enters HOLDOVER (R12, R32). With a passing check the source id and quality are kept, broadcast bytes are captured at the second equal
record in a row (R15, R17, R18), and the clock takes the candidate: it becomes T with its quality bound where it continues the last one,
is of usable quality and is not below the floor (R26 to R31), a T that it changes being a step, recorded, reported and re-checked by the
lanes (R30, R98); a word below the floor is a regression, reported once (R28). With a failing check one check error is counted, and with
check-loss on the Eth failure in the window costs alignment (R12, R14). Instants, phases,
the test's place and the oscillator's count at the instant: logs 3, 7, 9, 10. -/
def Obligations.SuperframeEndReports : Prop :=
  ∀ (lanesFirst : Bool) (s : State), s.running = true → s.framer.state = .aligned → s.framer.fresh = true →
    s.framer.superframePeriod = 105 →
    (s.framer.awaiting = none →
      ∃ t, exec (.superframeEnd lanesFirst) s = .next t
        ∧ { s with framer := t.framer, clock := t.clock }.keepsRest t ∧ t.framer.state = .aligned ∧ t.framer.heldBytes = none
        ∧ s.missesAt t.clock none)
    ∧ (∀ covered, s.framer.awaiting = some covered → checkPasses covered s.framer.carriedCheck = true →
      ∃ t, exec (.superframeEnd lanesFirst) s = .next t
        ∧ { s with framer := t.framer, clock := t.clock }.keepsRest t ∧ t.framer.state = .aligned
        ∧ t.framer.lastSource = some (sourceId covered) ∧ t.framer.lastQuality = some (quality covered)
        ∧ t.framer.counters = s.framer.counters ∧ t.framer.heldBytes = some (broadcast covered)
        ∧ t.framer.captured = (if s.framer.heldBytes = some (broadcast covered) then some (broadcast covered)
            else s.framer.captured)
        ∧ (s.framer.heldBytes = some (broadcast covered) → s.framer.captured ≠ some (broadcast covered) →
            t.sticky.getLsbD EventKind.broadcastChanged.code = true)
        ∧ (s.clock.prev = some (timeWord covered - 1) → 1 ≤ timeWord covered → quality covered ≤ 2 →
            s.clock.floor ≤ timeWord covered → s.confirmsTo t (timeWord covered) (quality covered))
        ∧ (s.clock.prev ≠ some (timeWord covered - 1) ∨ timeWord covered = 0 ∨ 2 < quality covered
              ∨ timeWord covered < s.clock.floor →
            s.missesAt { t.clock with regress := s.clock.regress } (some (timeWord covered))
              ∧ t.clock.regress = (s.clock.regress || decide (timeWord covered < s.clock.floor))
              ∧ (s.clock.regress = false → timeWord covered < s.clock.floor →
                  t.sticky.getLsbD EventKind.referenceRegressed.code = true)))
    ∧ (∀ covered fails, s.framer.awaiting = some covered → checkPasses covered s.framer.carriedCheck = false →
      fails = (if 16 ≤ s.framer.checkEnds then 1 else s.framer.checkFails + 1) →
      ∃ t, exec (.superframeEnd lanesFirst) s = .next t
        ∧ { s with framer := t.framer, clock := t.clock }.keepsRest t
        ∧ t.framer.counters.checkErrors = min 65535 (s.framer.counters.checkErrors + 1) ∧ t.framer.heldBytes = none
        ∧ t.framer.awaiting = none ∧ t.clock.prev = none
        ∧ (s.framer.checkLossTaken = false ∨ fails < s.framer.eTaken →
            t.framer.state = .aligned ∧ t.framer.checkFails = fails ∧ s.missesAt t.clock none)
        ∧ (s.framer.checkLossTaken = true → s.framer.eTaken ≤ fails →
            t.framer.state = .search ∧ t.framer.failTimer = 0
              ∧ t.framer.counters.losses = min 65535 (s.framer.counters.losses + 1)
              ∧ (s.clock.time = .assured → t.clock = { s.clock with
                  time := .holdover, u0 := s.clock.uMs.getD 0, acc := 0, h := some 0, miss := 0, prev := none })
              ∧ (s.clock.time ≠ .assured → t.clock = { s.clock with prev := none })))

/-- The tick at which the fail timer reaches the fail time raises the alarm and sends REFERENCE FAILED (R19); REFRAME forces a new search:
out of ALIGNED alignment is lost, a candidate is dropped, and SILENT stays (R14, R16). -/
def Obligations.ReferenceFailedAndReframe : Prop :=
  ∀ s : State,
    (s.running = true → s.framer.tickOwed = true → s.framer.state ≠ .aligned → s.framer.alarm = false →
        s.clock.params.failTime ≤ min 120 (s.framer.failTimer + 1) →
      exec .referenceFailed s = .next ((s.setFramer { s.framer with
        tickOwed := false, failTimer := min 120 (s.framer.failTimer + 1), alarm := true }).raise
          (.referenceFailed s.framer.state)))
    ∧ (∀ tag, s.ready .mgmt →
      (s.framer.state = .silent →
        exec (.reframe .mgmt tag) s = .next (s.place .mgmt (.reply tag (.reframe .silent))))
      ∧ (s.framer.state = .search →
        exec (.reframe .mgmt tag) s
          = .next ((s.setFramer { s.framer with fresh := false }).place .mgmt (.reply tag (.reframe .search))))
      ∧ (s.framer.state = .confirm →
        exec (.reframe .mgmt tag) s
          = .next ((s.setFramer { s.framer with state := .search, candidate := none, fresh := false }).place .mgmt
              (.reply tag (.reframe .search))))
      ∧ (s.framer.state = .aligned →
        ∃ t, exec (.reframe .mgmt tag) s = .next t ∧ t.framer.state = .search
          ∧ t.framer.counters = { s.framer.counters with losses := min 65535 (s.framer.counters.losses + 1) }
          ∧ t.framer.awaiting = none ∧ t.framer.failTimer = 0 ∧ t.clock.prev = none
          ∧ t.clock.time = (if s.clock.time = .assured then .holdover else s.clock.time)
          ∧ { s with framer := t.framer, clock := t.clock }.keepsRest t
          ∧ t.mgmt.tx.getLast? = some (.reply tag (.reframe .search))))
end

