-- ==== Sys2Proof/Laws/State.lean ====
section
/-! SUPPORT. One lemma for each field under each update of the state: what an indexed write reads as, and what it leaves. -/

namespace Sys2Proof.Machine

/-! ## Sixteen equal items, and items read after a map -/

theorem get_set_same {α : Type} (v : Vector α 16) (n : LaneIx) (x : α) : (v.set n.val x n.isLt).get n = x :=
  Vector.getElem_set_self n.isLt

theorem get_set_other {α : Type} (v : Vector α 16) {n m : LaneIx} (x : α) (h : m ≠ n) :
    (v.set n.val x n.isLt).get m = v.get m := by
  have hv : n.val ≠ m.val := fun e => h (Fin.ext e.symm)
  simp only [Vector.get]
  exact Vector.getElem_set_ne n.isLt m.isLt hv

theorem set_set {α : Type} (v : Vector α 16) (n : LaneIx) (x y : α) :
    (v.set n.val x n.isLt).set n.val y n.isLt = v.set n.val y n.isLt := by
  simp

theorem set_get_self {α : Type} (v : Vector α 16) (n : LaneIx) : v.set n.val (v.get n) n.isLt = v := by
  simp [Vector.get]

theorem get_sixteen {α : Type} (x : α) (n : LaneIx) : (sixteen x).get n = x := by
  fin_cases n <;> rfl

theorem get_map {α β : Type} (v : Vector α 16) (f : α → β) (n : LaneIx) : (v.map f).get n = f (v.get n) := by
  simp [Vector.get]

theorem mem_allLanes (n : LaneIx) : n ∈ allLanes := by
  fin_cases n <;> decide

theorem allLanes_nodup : allLanes.Nodup := by decide

/-! ## Lanes -/

@[simp] theorem lane_setLane_same (s : State) (n : LaneIx) (l : Lane) : (s.setLane n l).lane n = l := get_set_same _ _ _

theorem lane_setLane_other (s : State) {n m : LaneIx} (l : Lane) (h : m ≠ n) : (s.setLane n l).lane m = s.lane m :=
  get_set_other _ _ h

@[simp] theorem setLane_setLane (s : State) (n : LaneIx) (x y : Lane) : (s.setLane n x).setLane n y = s.setLane n y := by
  simp only [State.setLane, set_set]

@[simp] theorem setLane_self (s : State) (n : LaneIx) : s.setLane n (s.lane n) = s := by
  simp only [State.setLane, State.lane, set_get_self]

@[simp] theorem rel_setLane (s : State) (n m : LaneIx) (l : Lane) : (s.setLane n l).rel m = s.rel m := rfl
@[simp] theorem port_setLane (s : State) (n m : LaneIx) (l : Lane) : (s.setLane n l).port m = s.port m := rfl
@[simp] theorem link_setLane (s : State) (n : LaneIx) (l : Lane) (p : PortId) : (s.setLane n l).link p = s.link p := by
  cases p <;> rfl
@[simp] theorem setLane_supply (s : State) (n : LaneIx) (l : Lane) : (s.setLane n l).supply = s.supply := rfl
@[simp] theorem setLane_framer (s : State) (n : LaneIx) (l : Lane) : (s.setLane n l).framer = s.framer := rfl
@[simp] theorem setLane_clock (s : State) (n : LaneIx) (l : Lane) : (s.setLane n l).clock = s.clock := rfl
@[simp] theorem setLane_keys (s : State) (n : LaneIx) (l : Lane) : (s.setLane n l).keys = s.keys := rfl
@[simp] theorem setLane_releases (s : State) (n : LaneIx) (l : Lane) : (s.setLane n l).releases = s.releases := rfl
@[simp] theorem setLane_ports (s : State) (n : LaneIx) (l : Lane) : (s.setLane n l).ports = s.ports := rfl
@[simp] theorem setLane_mgmt (s : State) (n : LaneIx) (l : Lane) : (s.setLane n l).mgmt = s.mgmt := rfl
@[simp] theorem setLane_policyLock (s : State) (n : LaneIx) (l : Lane) : (s.setLane n l).policyLock = s.policyLock := rfl
@[simp] theorem setLane_siteHold (s : State) (n : LaneIx) (l : Lane) : (s.setLane n l).siteHold = s.siteHold := rfl
@[simp] theorem setLane_siteStableMs (s : State) (n : LaneIx) (l : Lane) : (s.setLane n l).siteStableMs = s.siteStableMs := rfl
@[simp] theorem setLane_mask (s : State) (n : LaneIx) (l : Lane) : (s.setLane n l).mask = s.mask := rfl
@[simp] theorem setLane_sticky (s : State) (n : LaneIx) (l : Lane) : (s.setLane n l).sticky = s.sticky := rfl
@[simp] theorem setLane_kept (s : State) (n : LaneIx) (l : Lane) : (s.setLane n l).kept = s.kept := rfl
@[simp] theorem setLane_pending (s : State) (n : LaneIx) (l : Lane) : (s.setLane n l).pending = s.pending := rfl

/-! ## The Release Unit's items -/

@[simp] theorem rel_setRel_same (s : State) (n : LaneIx) (r : Release) : (s.setRel n r).rel n = r := get_set_same _ _ _

theorem rel_setRel_other (s : State) {n m : LaneIx} (r : Release) (h : m ≠ n) : (s.setRel n r).rel m = s.rel m :=
  get_set_other _ _ h

@[simp] theorem setRel_setRel (s : State) (n : LaneIx) (x y : Release) : (s.setRel n x).setRel n y = s.setRel n y := by
  simp only [State.setRel, set_set]

@[simp] theorem setRel_self (s : State) (n : LaneIx) : s.setRel n (s.rel n) = s := by
  simp only [State.setRel, State.rel, set_get_self]

@[simp] theorem lane_setRel (s : State) (n m : LaneIx) (r : Release) : (s.setRel n r).lane m = s.lane m := rfl
@[simp] theorem port_setRel (s : State) (n m : LaneIx) (r : Release) : (s.setRel n r).port m = s.port m := rfl
@[simp] theorem link_setRel (s : State) (n : LaneIx) (r : Release) (p : PortId) : (s.setRel n r).link p = s.link p := by
  cases p <;> rfl
@[simp] theorem setRel_supply (s : State) (n : LaneIx) (r : Release) : (s.setRel n r).supply = s.supply := rfl
@[simp] theorem setRel_framer (s : State) (n : LaneIx) (r : Release) : (s.setRel n r).framer = s.framer := rfl
@[simp] theorem setRel_clock (s : State) (n : LaneIx) (r : Release) : (s.setRel n r).clock = s.clock := rfl
@[simp] theorem setRel_keys (s : State) (n : LaneIx) (r : Release) : (s.setRel n r).keys = s.keys := rfl
@[simp] theorem setRel_lanes (s : State) (n : LaneIx) (r : Release) : (s.setRel n r).lanes = s.lanes := rfl
@[simp] theorem setRel_ports (s : State) (n : LaneIx) (r : Release) : (s.setRel n r).ports = s.ports := rfl
@[simp] theorem setRel_mgmt (s : State) (n : LaneIx) (r : Release) : (s.setRel n r).mgmt = s.mgmt := rfl
@[simp] theorem setRel_policyLock (s : State) (n : LaneIx) (r : Release) : (s.setRel n r).policyLock = s.policyLock := rfl
@[simp] theorem setRel_siteHold (s : State) (n : LaneIx) (r : Release) : (s.setRel n r).siteHold = s.siteHold := rfl
@[simp] theorem setRel_siteStableMs (s : State) (n : LaneIx) (r : Release) : (s.setRel n r).siteStableMs = s.siteStableMs := rfl
@[simp] theorem setRel_mask (s : State) (n : LaneIx) (r : Release) : (s.setRel n r).mask = s.mask := rfl
@[simp] theorem setRel_sticky (s : State) (n : LaneIx) (r : Release) : (s.setRel n r).sticky = s.sticky := rfl
@[simp] theorem setRel_kept (s : State) (n : LaneIx) (r : Release) : (s.setRel n r).kept = s.kept := rfl
@[simp] theorem setRel_pending (s : State) (n : LaneIx) (r : Release) : (s.setRel n r).pending = s.pending := rfl

/-! ## Screen ports -/

@[simp] theorem port_setPort_same (s : State) (n : LaneIx) (p : ScreenPort) : (s.setPort n p).port n = p := get_set_same _ _ _

theorem port_setPort_other (s : State) {n m : LaneIx} (p : ScreenPort) (h : m ≠ n) : (s.setPort n p).port m = s.port m :=
  get_set_other _ _ h

@[simp] theorem setPort_setPort (s : State) (n : LaneIx) (x y : ScreenPort) : (s.setPort n x).setPort n y = s.setPort n y := by
  simp only [State.setPort, set_set]

@[simp] theorem setPort_self (s : State) (n : LaneIx) : s.setPort n (s.port n) = s := by
  simp only [State.setPort, State.port, set_get_self]

@[simp] theorem lane_setPort (s : State) (n m : LaneIx) (p : ScreenPort) : (s.setPort n p).lane m = s.lane m := rfl
@[simp] theorem rel_setPort (s : State) (n m : LaneIx) (p : ScreenPort) : (s.setPort n p).rel m = s.rel m := rfl
@[simp] theorem setPort_supply (s : State) (n : LaneIx) (p : ScreenPort) : (s.setPort n p).supply = s.supply := rfl
@[simp] theorem setPort_framer (s : State) (n : LaneIx) (p : ScreenPort) : (s.setPort n p).framer = s.framer := rfl
@[simp] theorem setPort_clock (s : State) (n : LaneIx) (p : ScreenPort) : (s.setPort n p).clock = s.clock := rfl
@[simp] theorem setPort_keys (s : State) (n : LaneIx) (p : ScreenPort) : (s.setPort n p).keys = s.keys := rfl
@[simp] theorem setPort_lanes (s : State) (n : LaneIx) (p : ScreenPort) : (s.setPort n p).lanes = s.lanes := rfl
@[simp] theorem setPort_releases (s : State) (n : LaneIx) (p : ScreenPort) : (s.setPort n p).releases = s.releases := rfl
@[simp] theorem setPort_mgmt (s : State) (n : LaneIx) (p : ScreenPort) : (s.setPort n p).mgmt = s.mgmt := rfl
@[simp] theorem setPort_policyLock (s : State) (n : LaneIx) (p : ScreenPort) : (s.setPort n p).policyLock = s.policyLock := rfl
@[simp] theorem setPort_siteHold (s : State) (n : LaneIx) (p : ScreenPort) : (s.setPort n p).siteHold = s.siteHold := rfl
@[simp] theorem setPort_siteStableMs (s : State) (n : LaneIx) (p : ScreenPort) : (s.setPort n p).siteStableMs = s.siteStableMs := rfl
@[simp] theorem setPort_mask (s : State) (n : LaneIx) (p : ScreenPort) : (s.setPort n p).mask = s.mask := rfl
@[simp] theorem setPort_sticky (s : State) (n : LaneIx) (p : ScreenPort) : (s.setPort n p).sticky = s.sticky := rfl
@[simp] theorem setPort_kept (s : State) (n : LaneIx) (p : ScreenPort) : (s.setPort n p).kept = s.kept := rfl
@[simp] theorem setPort_pending (s : State) (n : LaneIx) (p : ScreenPort) : (s.setPort n p).pending = s.pending := rfl

/-! ## Links -/

@[simp] theorem link_setLink_same (s : State) (p : PortId) (l : Link) : (s.setLink p l).link p = l := by
  cases p with
  | mgmt => rfl
  | screen n => simp [State.setLink, State.link]

theorem link_setLink_other (s : State) {p q : PortId} (l : Link) (h : q ≠ p) : (s.setLink p l).link q = s.link q := by
  cases p with
  | mgmt => cases q with
    | mgmt => exact absurd rfl h
    | screen m => rfl
  | screen n => cases q with
    | mgmt => rfl
    | screen m =>
      have hm : m ≠ n := fun e => h (by rw [e])
      simp [State.setLink, State.link, port_setPort_other _ _ hm]

@[simp] theorem setLink_self (s : State) (p : PortId) : s.setLink p (s.link p) = s := by
  cases p with
  | mgmt => rfl
  | screen n => exact setPort_self s n

@[simp] theorem setLink_setLink (s : State) (p : PortId) (l m : Link) : (s.setLink p l).setLink p m = s.setLink p m := by
  cases p with
  | mgmt => rfl
  | screen n => simp [State.setLink]

@[simp] theorem lane_setLink (s : State) (p : PortId) (l : Link) (n : LaneIx) : (s.setLink p l).lane n = s.lane n := by
  cases p <;> rfl
@[simp] theorem rel_setLink (s : State) (p : PortId) (l : Link) (n : LaneIx) : (s.setLink p l).rel n = s.rel n := by
  cases p <;> rfl
@[simp] theorem setLink_supply (s : State) (p : PortId) (l : Link) : (s.setLink p l).supply = s.supply := by cases p <;> rfl
@[simp] theorem setLink_framer (s : State) (p : PortId) (l : Link) : (s.setLink p l).framer = s.framer := by cases p <;> rfl
@[simp] theorem setLink_clock (s : State) (p : PortId) (l : Link) : (s.setLink p l).clock = s.clock := by cases p <;> rfl
@[simp] theorem setLink_keys (s : State) (p : PortId) (l : Link) : (s.setLink p l).keys = s.keys := by cases p <;> rfl
@[simp] theorem setLink_lanes (s : State) (p : PortId) (l : Link) : (s.setLink p l).lanes = s.lanes := by cases p <;> rfl
@[simp] theorem setLink_releases (s : State) (p : PortId) (l : Link) : (s.setLink p l).releases = s.releases := by
  cases p <;> rfl
@[simp] theorem setLink_policyLock (s : State) (p : PortId) (l : Link) : (s.setLink p l).policyLock = s.policyLock := by
  cases p <;> rfl
@[simp] theorem setLink_siteHold (s : State) (p : PortId) (l : Link) : (s.setLink p l).siteHold = s.siteHold := by
  cases p <;> rfl
@[simp] theorem setLink_siteStableMs (s : State) (p : PortId) (l : Link) : (s.setLink p l).siteStableMs = s.siteStableMs := by
  cases p <;> rfl
@[simp] theorem setLink_mask (s : State) (p : PortId) (l : Link) : (s.setLink p l).mask = s.mask := by cases p <;> rfl
@[simp] theorem setLink_sticky (s : State) (p : PortId) (l : Link) : (s.setLink p l).sticky = s.sticky := by cases p <;> rfl
@[simp] theorem setLink_kept (s : State) (p : PortId) (l : Link) : (s.setLink p l).kept = s.kept := by cases p <;> rfl
@[simp] theorem setLink_pending (s : State) (p : PortId) (l : Link) : (s.setLink p l).pending = s.pending := by
  cases p <;> rfl

/-- A port's own items but its link stay under a write of any link. -/
theorem port_setLink_items (s : State) (p : PortId) (l : Link) (n : LaneIx) :
    ((s.setLink p l).port n).entry = (s.port n).entry ∧ ((s.setLink p l).port n).state = (s.port n).state
      ∧ ((s.setLink p l).port n).slices = (s.port n).slices ∧ ((s.setLink p l).port n).dtInForce = (s.port n).dtInForce
      ∧ ((s.setLink p l).port n).degraded = (s.port n).degraded := by
  cases p with
  | mgmt => exact ⟨rfl, rfl, rfl, rfl, rfl⟩
  | screen m =>
    by_cases h : n = m
    · subst h; simp [State.setLink]
    · simp [State.setLink, port_setPort_other _ _ h]

/-! ## Keys, clock, framer -/

@[simp] theorem lane_setKey (s : State) (i : Nat) (k : Key) (n : LaneIx) : (s.setKey i k).lane n = s.lane n := rfl
@[simp] theorem rel_setKey (s : State) (i : Nat) (k : Key) (n : LaneIx) : (s.setKey i k).rel n = s.rel n := rfl
@[simp] theorem port_setKey (s : State) (i : Nat) (k : Key) (n : LaneIx) : (s.setKey i k).port n = s.port n := rfl
@[simp] theorem link_setKey (s : State) (i : Nat) (k : Key) (p : PortId) : (s.setKey i k).link p = s.link p := by
  cases p <;> rfl
@[simp] theorem setKey_supply (s : State) (i : Nat) (k : Key) : (s.setKey i k).supply = s.supply := rfl
@[simp] theorem setKey_framer (s : State) (i : Nat) (k : Key) : (s.setKey i k).framer = s.framer := rfl
@[simp] theorem setKey_clock (s : State) (i : Nat) (k : Key) : (s.setKey i k).clock = s.clock := rfl
@[simp] theorem setKey_lanes (s : State) (i : Nat) (k : Key) : (s.setKey i k).lanes = s.lanes := rfl
@[simp] theorem setKey_releases (s : State) (i : Nat) (k : Key) : (s.setKey i k).releases = s.releases := rfl
@[simp] theorem setKey_ports (s : State) (i : Nat) (k : Key) : (s.setKey i k).ports = s.ports := rfl
@[simp] theorem setKey_mgmt (s : State) (i : Nat) (k : Key) : (s.setKey i k).mgmt = s.mgmt := rfl
@[simp] theorem setKey_mask (s : State) (i : Nat) (k : Key) : (s.setKey i k).mask = s.mask := rfl
@[simp] theorem setKey_sticky (s : State) (i : Nat) (k : Key) : (s.setKey i k).sticky = s.sticky := rfl
@[simp] theorem setKey_kept (s : State) (i : Nat) (k : Key) : (s.setKey i k).kept = s.kept := rfl
@[simp] theorem setKey_pending (s : State) (i : Nat) (k : Key) : (s.setKey i k).pending = s.pending := rfl

@[simp] theorem lane_setClock (s : State) (c : Clock) (n : LaneIx) : (s.setClock c).lane n = s.lane n := rfl
@[simp] theorem rel_setClock (s : State) (c : Clock) (n : LaneIx) : (s.setClock c).rel n = s.rel n := rfl
@[simp] theorem port_setClock (s : State) (c : Clock) (n : LaneIx) : (s.setClock c).port n = s.port n := rfl
@[simp] theorem setClock_clock (s : State) (c : Clock) : (s.setClock c).clock = c := rfl
@[simp] theorem setClock_supply (s : State) (c : Clock) : (s.setClock c).supply = s.supply := rfl
@[simp] theorem setClock_framer (s : State) (c : Clock) : (s.setClock c).framer = s.framer := rfl
@[simp] theorem setClock_keys (s : State) (c : Clock) : (s.setClock c).keys = s.keys := rfl
@[simp] theorem setClock_kept (s : State) (c : Clock) : (s.setClock c).kept = s.kept := rfl
@[simp] theorem setClock_pending (s : State) (c : Clock) : (s.setClock c).pending = s.pending := rfl
@[simp] theorem setClock_mgmt (s : State) (c : Clock) : (s.setClock c).mgmt = s.mgmt := rfl
@[simp] theorem setClock_ports (s : State) (c : Clock) : (s.setClock c).ports = s.ports := rfl

@[simp] theorem lane_setFramer (s : State) (f : Framer) (n : LaneIx) : (s.setFramer f).lane n = s.lane n := rfl
@[simp] theorem rel_setFramer (s : State) (f : Framer) (n : LaneIx) : (s.setFramer f).rel n = s.rel n := rfl
@[simp] theorem port_setFramer (s : State) (f : Framer) (n : LaneIx) : (s.setFramer f).port n = s.port n := rfl
@[simp] theorem setFramer_framer (s : State) (f : Framer) : (s.setFramer f).framer = f := rfl
@[simp] theorem setFramer_supply (s : State) (f : Framer) : (s.setFramer f).supply = s.supply := rfl
@[simp] theorem setFramer_clock (s : State) (f : Framer) : (s.setFramer f).clock = s.clock := rfl
@[simp] theorem setFramer_keys (s : State) (f : Framer) : (s.setFramer f).keys = s.keys := rfl
@[simp] theorem setFramer_kept (s : State) (f : Framer) : (s.setFramer f).kept = s.kept := rfl
@[simp] theorem setFramer_pending (s : State) (f : Framer) : (s.setFramer f).pending = s.pending := rfl
@[simp] theorem setFramer_mgmt (s : State) (f : Framer) : (s.setFramer f).mgmt = s.mgmt := rfl
@[simp] theorem setFramer_ports (s : State) (f : Framer) : (s.setFramer f).ports = s.ports := rfl

/-! ## The state after reset -/

theorem reset_lane (n : LaneIx) : State.reset.lane n = Lane.afterReset := get_sixteen _ n
theorem reset_rel (n : LaneIx) : State.reset.rel n = Release.clear := get_sixteen _ n
theorem reset_port (n : LaneIx) : State.reset.port n = ScreenPort.afterReset := get_sixteen _ n

end Sys2Proof.Machine
end

