-- ==== Sys2Proof/Laws/Fields.lean ====
section
/-! SUPPORT. Fields of a body: what was written most significant byte first is read back (R187). -/

namespace Sys2Proof

@[simp] theorem length_beBytes (k v : Nat) : (beBytes k v).length = k := by
  induction k with
  | zero => rfl
  | succ k ih => simp [beBytes, ih]

/-- Reading a run of bytes in front of others. -/
theorem foldl_beBytes (k v start : Nat) :
    (beBytes k v).foldl (fun n b => n * 256 + b.toNat) start = start * 256 ^ k + v % 256 ^ k := by
  induction k generalizing start with
  | zero => simp [beBytes, Nat.mod_one]
  | succ k ih =>
    have h : v % 256 ^ (k + 1) = v / 256 ^ k % 256 * 256 ^ k + v % 256 ^ k := by
      rw [Nat.pow_succ, Nat.mod_mul, Nat.mul_comm (256 ^ k), Nat.add_comm]
    have h256 : (2 : Nat) ^ 8 = 256 := rfl
    have hs : (256 : Nat) ^ (k + 1) = 256 * 256 ^ k := by rw [Nat.pow_succ, Nat.mul_comm]
    rw [beBytes, List.foldl_cons, ih, BitVec.toNat_ofNat, h256, h, hs, Nat.add_mul, Nat.add_assoc, Nat.mul_assoc]

/-- A number's lowest bytes spell it, below 256 to their count. -/
theorem beNat_beBytes (k v : Nat) : beNat (beBytes k v) = v % 256 ^ k := by
  simpa [beNat] using foldl_beBytes k v 0

/-- A field of whole bytes, read where it was written. -/
theorem fieldAt_beBytes {w : Nat} (before after : List Byte) (len at' : Nat) (v : BitVec w) (hw : w = 8 * len)
    (hat : before.length = at') : fieldAt w (before ++ beBytes len v.toNat ++ after) at' len = v := by
  have h256 : (256 : Nat) ^ len = 2 ^ w := by rw [hw, Nat.pow_mul]
  have hdrop : ((before ++ beBytes len v.toNat ++ after).drop at').take len = beBytes len v.toNat := by
    rw [List.append_assoc, ← hat, List.drop_left, List.take_append_of_le_length (by simp)]
    exact List.take_of_length_le (by simp)
  apply BitVec.eq_of_toNat_eq
  rw [fieldAt, hdrop, beNat_beBytes, BitVec.toNat_ofNat, h256, Nat.mod_mod, Nat.mod_eq_of_lt v.isLt]

end Sys2Proof
end

