-- ==== Sys2Proof/Laws/Keys.lean ====
section
/-! SUPPORT. The Key Table as an addressed store: reading after writing, reading elsewhere, the canonical form, the labels (R47, R49). -/

namespace Sys2Proof.Machine

/-! ## Reading after writing -/

@[simp] theorem lookupKey_insertKey_same (slot : Nat) (k : Key) (table : List (Nat × Key)) :
    lookupKey slot (insertKey slot k table) = some k := by
  induction table with
  | nil => simp [insertKey, lookupKey]
  | cons e rest ih =>
    obtain ⟨i, x⟩ := e
    unfold insertKey
    split
    · simp [lookupKey]
    · split
      · simp [lookupKey]
      · next h => simp [lookupKey, Ne.symm h, ih]

theorem lookupKey_insertKey_other {slot other : Nat} (k : Key) (table : List (Nat × Key)) (h : other ≠ slot) :
    lookupKey other (insertKey slot k table) = lookupKey other table := by
  induction table with
  | nil => simp [insertKey, lookupKey, h.symm]
  | cons e rest ih =>
    obtain ⟨i, x⟩ := e
    unfold insertKey
    split
    · simp [lookupKey, h.symm]
    · split
      · next hi => simp [lookupKey, h.symm, ← hi]
      · simp only [lookupKey, ih]

@[simp] theorem lookupKey_removeKey_same (slot : Nat) (table : List (Nat × Key)) :
    lookupKey slot (removeKey slot table) = none := by
  induction table with
  | nil => rfl
  | cons e rest ih =>
    obtain ⟨i, x⟩ := e
    by_cases h : i = slot
    · simpa [removeKey, h] using ih
    · simpa [removeKey, h, lookupKey] using ih

theorem lookupKey_removeKey_other {slot other : Nat} (table : List (Nat × Key)) (h : other ≠ slot) :
    lookupKey other (removeKey slot table) = lookupKey other table := by
  induction table with
  | nil => rfl
  | cons e rest ih =>
    obtain ⟨i, x⟩ := e
    by_cases hi : i = slot
    · subst hi; simpa [removeKey, lookupKey, h.symm] using ih
    · simp only [removeKey, List.filter_cons, bne_iff_ne, ne_eq, hi, not_false_eq_true, if_true, lookupKey]
      split
      · rfl
      · exact ih

@[simp] theorem key_setKey_same (s : State) (slot : Nat) (k : Key) : (s.setKey slot k).key slot = some k :=
  lookupKey_insertKey_same slot k s.keys

theorem key_setKey_other (s : State) {slot other : Nat} (k : Key) (h : other ≠ slot) :
    (s.setKey slot k).key other = s.key other := lookupKey_insertKey_other k s.keys h

/-! ## The entries of a table -/

/-- A record found is an entry. -/
theorem mem_of_lookupKey {slot : Nat} {k : Key} {table : List (Nat × Key)} (h : lookupKey slot table = some k) :
    (slot, k) ∈ table := by
  induction table with
  | nil => simp [lookupKey] at h
  | cons e rest ih =>
    obtain ⟨i, x⟩ := e
    unfold lookupKey at h
    split at h
    · simp_all
    · exact List.mem_cons_of_mem _ (ih h)

/-- In the canonical form every entry is found under its slot. -/
theorem lookupKey_of_mem {slot : Nat} {k : Key} {table : List (Nat × Key)} (hw : keysWf table) (h : (slot, k) ∈ table) :
    lookupKey slot table = some k := by
  obtain ⟨hp, -⟩ := hw
  induction table with
  | nil => simp at h
  | cons e rest ih =>
    obtain ⟨i, x⟩ := e
    rw [List.pairwise_cons] at hp
    rcases List.mem_cons.mp h with h | h
    · injection h with h1 h2; subst h1 h2; simp [lookupKey]
    · have : i < slot := hp.1 _ h
      have hne : i ≠ slot := by omega
      simp only [lookupKey, hne, if_false]
      exact ih h hp.2

/-- The entries after a write: the one written, and the others as they were. -/
theorem mem_insertKey {slot : Nat} {k : Key} {table : List (Nat × Key)} {e : Nat × Key} (h : e ∈ insertKey slot k table) :
    e = (slot, k) ∨ e ∈ table := by
  induction table with
  | nil => simpa [insertKey] using h
  | cons d rest ih =>
    obtain ⟨i, x⟩ := d
    unfold insertKey at h
    split at h
    · rcases List.mem_cons.mp h with h | h
      · exact .inl h
      · exact .inr h
    · split at h
      · rcases List.mem_cons.mp h with h | h
        · exact .inl h
        · exact .inr (List.mem_cons_of_mem _ h)
      · rcases List.mem_cons.mp h with h | h
        · exact .inr (h ▸ List.mem_cons_self)
        · rcases ih h with h | h
          · exact .inl h
          · exact .inr (List.mem_cons_of_mem _ h)

/-- In the canonical form the entries after a write are the one written and those of other slots. -/
theorem mem_insertKey_of_wf {slot : Nat} {k : Key} {table : List (Nat × Key)} (hw : keysWf table) (e : Nat × Key) :
    e ∈ insertKey slot k table ↔ e = (slot, k) ∨ (e ∈ table ∧ e.1 ≠ slot) := by
  obtain ⟨hp, -⟩ := hw
  induction table with
  | nil => simp [insertKey]
  | cons d rest ih =>
    obtain ⟨i, x⟩ := d
    rw [List.pairwise_cons] at hp
    have hrest : ∀ b ∈ rest, i < b.1 := hp.1
    unfold insertKey
    split
    · next hlt =>
      constructor
      · intro h
        rcases List.mem_cons.mp h with h | h
        · exact .inl h
        · refine .inr ⟨h, ?_⟩
          rcases List.mem_cons.mp h with h | h
          · subst h; simp only; omega
          · have := hrest _ h; omega
      · rintro (h | ⟨h, -⟩)
        · exact h ▸ List.mem_cons_self
        · exact List.mem_cons_of_mem _ h
    · split
      · next heq =>
        subst heq
        constructor
        · intro h
          rcases List.mem_cons.mp h with h | h
          · exact .inl h
          · have := hrest _ h
            exact .inr ⟨List.mem_cons_of_mem _ h, by omega⟩
        · rintro (h | ⟨h, hne⟩)
          · exact h ▸ List.mem_cons_self
          · rcases List.mem_cons.mp h with h | h
            · subst h; exact absurd rfl hne
            · exact List.mem_cons_of_mem _ h
      · next hne =>
        rw [List.mem_cons, ih hp.2, List.mem_cons]
        constructor
        · rintro (h | h | ⟨h, hs⟩)
          · subst h; exact .inr ⟨.inl rfl, fun h => hne h.symm⟩
          · exact .inl h
          · exact .inr ⟨.inr h, hs⟩
        · rintro (h | ⟨h | h, hs⟩)
          · exact .inr (.inl h)
          · exact .inl h
          · exact .inr (.inr ⟨h, hs⟩)

/-! ## The canonical form -/

theorem insertKey_wf {slot : Nat} (k : Key) {table : List (Nat × Key)} (hs : slot < 512) (hw : keysWf table) :
    keysWf (insertKey slot k table) := by
  refine ⟨?_, fun e he => ?_⟩
  · obtain ⟨hp, -⟩ := hw
    induction table with
    | nil => simp [insertKey]
    | cons d rest ih =>
      obtain ⟨i, x⟩ := d
      have hp' := hp
      rw [List.pairwise_cons] at hp
      unfold insertKey
      split
      · next hlt =>
        rw [List.pairwise_cons]
        refine ⟨fun b hb => ?_, hp'⟩
        rcases List.mem_cons.mp hb with h | h
        · subst h; exact hlt
        · exact Nat.lt_trans hlt (hp.1 _ h)
      · split
        · next heq => subst heq; exact List.pairwise_cons.mpr hp
        · next hlt hne =>
          rw [List.pairwise_cons]
          refine ⟨fun b hb => ?_, ih hp.2⟩
          rcases mem_insertKey hb with h | h
          · subst h; simp only; omega
          · exact hp.1 _ h
  · rcases mem_insertKey he with h | h
    · subst h; exact hs
    · exact hw.2 e h

theorem removeKey_wf (slot : Nat) {table : List (Nat × Key)} (hw : keysWf table) : keysWf (removeKey slot table) :=
  ⟨hw.1.filter _, fun e he => hw.2 e (List.mem_filter.mp he).1⟩

/-- A record found lies in one of the 512 slots. -/
theorem slot_of_lookupKey {slot : Nat} {k : Key} {table : List (Nat × Key)} (hw : keysWf table)
    (h : lookupKey slot table = some k) : slot < 512 := hw.2 _ (mem_of_lookupKey h)

theorem reset_keysWf : keysWf State.reset.keys := ⟨List.Pairwise.nil, fun _ h => absurd h List.not_mem_nil⟩

end Sys2Proof.Machine
end

