-- ==== Sys2Proof/Laws/Sending.lean ====
section
/-! SUPPORT. What taking an event, placing a notice and the work of lanes, grants, keys and bindings can do to the rest of the part: nothing but send (R163, R164, R174). -/

namespace Sys2Proof.Machine

/-! ## The relation -/

/-- A link has only had notices placed on it: nothing else of it moved but its notices lost count, and where a notice was placed
the list keeps to 32, less the place kept (R163, R164). -/
structure LinkSends (kept : Nat) (a b : Link) : Prop where
  receiver : b.receiver = a.receiver
  buffer : b.buffer = a.buffer
  softErrors : b.softErrors = a.softErrors
  tx : ∃ ns : List Notice, b.tx = a.tx ++ ns.map TxFrame.notice ∧ (ns = [] ∨ b.tx.length + kept ≤ Config.txPlaces)

/-- The place kept on a port for the reply of the event in hand (R163). -/
def State.keptOn (s : State) (p : PortId) : Nat := if s.kept = some p then 1 else 0

/-- A lane's three parameters stay (R105). -/
abbrev LaneKeeps (a b : Lane) : Prop := b.wt = a.wt ∧ b.l = a.l ∧ b.dt = a.dt

/-- Only lanes but for their parameters, grants, holdings, keys, port states, sticky flags that are set, and notices may differ. -/
structure Sends (s t : State) : Prop where
  supply : t.supply = s.supply
  framer : t.framer = s.framer
  clock : t.clock = s.clock
  policyLock : t.policyLock = s.policyLock
  siteHold : t.siteHold = s.siteHold
  siteStableMs : t.siteStableMs = s.siteStableMs
  mask : t.mask = s.mask
  kept : t.kept = s.kept
  pending : t.pending = s.pending
  entry : ∀ n, (t.port n).entry = (s.port n).entry
  slices : ∀ n, (t.port n).slices = (s.port n).slices
  dtInForce : ∀ n, (t.port n).dtInForce = (s.port n).dtInForce
  degraded : ∀ n, (t.port n).degraded = (s.port n).degraded
  laneParams : ∀ n, LaneKeeps (s.lane n) (t.lane n)
  sticky : ∀ i, s.sticky.getLsbD i = true → t.sticky.getLsbD i = true
  link : ∀ p, LinkSends (s.keptOn p) (s.link p) (t.link p)

theorem LinkSends.refl (kept : Nat) (a : Link) : LinkSends kept a a :=
  ⟨rfl, rfl, rfl, [], by simp, .inl rfl⟩

theorem LinkSends.trans {kept : Nat} {a b c : Link} (h : LinkSends kept a b) (k : LinkSends kept b c) : LinkSends kept a c := by
  obtain ⟨ns, hns, hb⟩ := h.tx
  obtain ⟨ms, hms, kb⟩ := k.tx
  refine ⟨k.receiver.trans h.receiver, k.buffer.trans h.buffer, k.softErrors.trans h.softErrors, ns ++ ms, ?_, ?_⟩
  · rw [hms, hns, List.map_append, List.append_assoc]
  · rcases kb with rfl | kb
    · rcases hb with rfl | hb
      · exact .inl rfl
      · right; rw [hms]; simpa using hb
    · exact .inr kb

theorem Sends.refl (s : State) : Sends s s := by
  constructor <;> first | rfl | (intro; rfl) | exact fun _ => ⟨rfl, rfl, rfl⟩ | exact fun _ h => h | exact fun p => LinkSends.refl _ _

theorem Sends.trans {s t u : State} (h : Sends s t) (k : Sends t u) : Sends s u where
  supply := k.supply.trans h.supply
  framer := k.framer.trans h.framer
  clock := k.clock.trans h.clock
  policyLock := k.policyLock.trans h.policyLock
  siteHold := k.siteHold.trans h.siteHold
  siteStableMs := k.siteStableMs.trans h.siteStableMs
  mask := k.mask.trans h.mask
  kept := k.kept.trans h.kept
  pending := k.pending.trans h.pending
  entry n := (k.entry n).trans (h.entry n)
  slices n := (k.slices n).trans (h.slices n)
  dtInForce n := (k.dtInForce n).trans (h.dtInForce n)
  degraded n := (k.degraded n).trans (h.degraded n)
  laneParams n := ⟨(k.laneParams n).1.trans (h.laneParams n).1, (k.laneParams n).2.1.trans (h.laneParams n).2.1,
    (k.laneParams n).2.2.trans (h.laneParams n).2.2⟩
  sticky i hi := k.sticky i (h.sticky i hi)
  link p := by
    have hk : t.keptOn p = s.keptOn p := by simp only [State.keptOn, h.kept]
    exact (h.link p).trans (hk ▸ k.link p)

/-- What only sends leaves the settings, the framer, the clock and the error windows alone. -/
theorem Sends.keepsRest {s t : State} (h : Sends s t) : s.keepsRest t :=
  ⟨⟨h.supply, h.policyLock, h.siteHold, h.siteStableMs, h.mask, h.kept, h.pending,
      fun n => ⟨h.entry n, (h.laneParams n).1, (h.laneParams n).2.1, (h.laneParams n).2.2⟩⟩,
    h.framer, h.clock, fun n => ⟨h.slices n, h.dtInForce n, h.degraded n⟩⟩

/-- What keeps lanes, grants, keys and sticky flags alone changes no link and nothing else: a way to see that an update sends. -/
theorem Sends.of_ports {s t : State} (h1 : t.supply = s.supply) (h2 : t.framer = s.framer) (h3 : t.clock = s.clock)
    (h4 : t.policyLock = s.policyLock) (h5 : t.siteHold = s.siteHold) (h6 : t.siteStableMs = s.siteStableMs)
    (h7 : t.mask = s.mask) (h8 : t.kept = s.kept) (h9 : t.pending = s.pending) (h10 : t.ports = s.ports)
    (h11 : t.mgmt = s.mgmt) (h12 : ∀ n, LaneKeeps (s.lane n) (t.lane n))
    (h13 : ∀ i, s.sticky.getLsbD i = true → t.sticky.getLsbD i = true) : Sends s t := by
  have hp : ∀ n, t.port n = s.port n := fun n => by simp only [State.port, h10]
  have hl : ∀ p, t.link p = s.link p := fun p => by cases p <;> simp only [State.link, h11, hp]
  refine ⟨h1, h2, h3, h4, h5, h6, h7, h8, h9, ?_, ?_, ?_, ?_, h12, h13, ?_⟩ <;> intro n
  · rw [hp]
  · rw [hp]
  · rw [hp]
  · rw [hp]
  · rw [hl]; exact LinkSends.refl _ _

/-! ## The updates -/

/-- A lane written with its parameters as they were. -/
theorem setLane_sends (s : State) (n : LaneIx) (l : Lane) (h : LaneKeeps (s.lane n) l := by exact ⟨rfl, rfl, rfl⟩) :
    Sends s (s.setLane n l) := by
  refine Sends.of_ports rfl rfl rfl rfl rfl rfl rfl rfl rfl rfl rfl (fun m => ?_) (fun _ hi => hi)
  by_cases hm : m = n
  · subst hm; rw [lane_setLane_same]; exact h
  · rw [lane_setLane_other _ _ hm]; exact ⟨rfl, rfl, rfl⟩

theorem setRel_sends (s : State) (n : LaneIx) (r : Release) : Sends s (s.setRel n r) :=
  Sends.of_ports rfl rfl rfl rfl rfl rfl rfl rfl rfl rfl rfl (fun _ => ⟨rfl, rfl, rfl⟩) (fun _ h => h)

theorem setKey_sends (s : State) (i : Nat) (k : Key) : Sends s (s.setKey i k) :=
  Sends.of_ports rfl rfl rfl rfl rfl rfl rfl rfl rfl rfl rfl (fun _ => ⟨rfl, rfl, rfl⟩) (fun _ h => h)

theorem setKeys_sends (s : State) (keys : List (Nat × Key)) : Sends s { s with keys := keys } :=
  Sends.of_ports rfl rfl rfl rfl rfl rfl rfl rfl rfl rfl rfl (fun _ => ⟨rfl, rfl, rfl⟩) (fun _ h => h)

theorem setSticky_sends (s : State) (k : EventKind) : Sends s (s.setSticky k) :=
  Sends.of_ports rfl rfl rfl rfl rfl rfl rfl rfl rfl rfl rfl (fun _ => ⟨rfl, rfl, rfl⟩)
    (fun i h => by simp [State.setSticky, h])

/-- A write of one link that itself sends. -/
theorem setLink_sends (s : State) (p : PortId) (l : Link) (h : LinkSends (s.keptOn p) (s.link p) l) :
    Sends s (s.setLink p l) := by
  refine ⟨by simp, by simp, by simp, by simp, by simp, by simp, by simp, by simp, by simp,
    fun n => (port_setLink_items s p l n).1, fun n => (port_setLink_items s p l n).2.2.1,
    fun n => (port_setLink_items s p l n).2.2.2.1, fun n => (port_setLink_items s p l n).2.2.2.2,
    fun n => by simp [LaneKeeps], fun i h => by simpa using h, fun q => ?_⟩
  by_cases hq : q = p
  · subst hq; rw [link_setLink_same]; exact h
  · rw [link_setLink_other _ _ hq]; exact LinkSends.refl _ _

theorem setPortState_sends (s : State) (n : LaneIx) (st : PortState) : Sends s (s.setPortState n st) := by
  have hp : ∀ m, ((s.setPortState n st).port m).entry = (s.port m).entry
      ∧ ((s.setPortState n st).port m).slices = (s.port m).slices
      ∧ ((s.setPortState n st).port m).dtInForce = (s.port m).dtInForce
      ∧ ((s.setPortState n st).port m).degraded = (s.port m).degraded
      ∧ ((s.setPortState n st).port m).link = (s.port m).link := by
    intro m
    by_cases h : m = n
    · subst h; simp [State.setPortState]
    · simp [State.setPortState, port_setPort_other _ _ h]
  refine ⟨rfl, rfl, rfl, rfl, rfl, rfl, rfl, rfl, rfl, fun m => (hp m).1, fun m => (hp m).2.1, fun m => (hp m).2.2.1,
    fun m => (hp m).2.2.2.1, fun _ => ⟨rfl, rfl, rfl⟩, fun _ h => h, fun q => ?_⟩
  cases q with
  | mgmt => exact LinkSends.refl _ _
  | screen m =>
    have : (s.setPortState n st).link (.screen m) = s.link (.screen m) := (hp m).2.2.2.2
    rw [this]; exact LinkSends.refl _ _

/-- A notice placed where it has room (R163, R164). -/
theorem place_sends (s : State) (p : PortId) (x : Notice) (h : s.hasRoom p = true) : Sends s (s.place p (.notice x)) := by
  refine setLink_sends s p _ ⟨rfl, rfl, rfl, [x], rfl, .inr ?_⟩
  have h := of_decide_eq_true h
  simp only [State.keptOn, List.length_append, List.length_singleton]
  omega

theorem countLost_sends (s : State) (p : PortId) : Sends s (s.countLost p) :=
  setLink_sends s p _ ⟨rfl, rfl, rfl, [], by simp, .inl rfl⟩

/-- Everything the taking of an event can do (R174). -/
theorem raise_sends (s : State) (e : Event) : Sends s (s.raise e) := by
  unfold State.raise
  split
  · have h1 := setSticky_sends s e.kind
    dsimp only
    split
    · split
      · exact h1.trans (place_sends _ _ _ (by assumption))
      · exact (h1.trans (countLost_sends _ _)).trans (setSticky_sends _ _)
    · exact h1
  · exact Sends.refl s

/-- Everything a notice for a screen port can do (R164). -/
theorem notify_sends (s : State) (n : LaneIx) (x : Notice) : Sends s (s.notify n x) := by
  unfold State.notify
  split
  · split
    · exact place_sends _ _ _ (by assumption)
    · exact (countLost_sends _ _).trans (raise_sends _ _)
  · exact Sends.refl s

/-- An operation on each of the lanes that only sends, only sends. -/
theorem forLanes_sends (f : LaneIx → State → State) (h : ∀ n s, Sends s (f n s)) (s : State) : Sends s (s.forLanes f) := by
  unfold State.forLanes
  generalize allLanes = ls
  induction ls generalizing s with
  | nil => exact Sends.refl s
  | cons n ls ih => exact (h n s).trans (ih (f n s))

/-! ## Events and notices leave lanes, grants, keys and port states -/

/-- What neither an event nor a notice touches. -/
structure Quiet (s t : State) : Prop extends Sends s t where
  lanes : t.lanes = s.lanes
  releases : t.releases = s.releases
  keys : t.keys = s.keys
  portState : ∀ n, (t.port n).state = (s.port n).state

theorem Quiet.refl (s : State) : Quiet s s := ⟨Sends.refl s, rfl, rfl, rfl, fun _ => rfl⟩

theorem Quiet.trans {s t u : State} (h : Quiet s t) (k : Quiet t u) : Quiet s u :=
  ⟨h.toSends.trans k.toSends, k.lanes.trans h.lanes, k.releases.trans h.releases, k.keys.trans h.keys,
    fun n => (k.portState n).trans (h.portState n)⟩

theorem Quiet.lane {s t : State} (h : Quiet s t) (n : LaneIx) : t.lane n = s.lane n := by simp only [State.lane, h.lanes]
theorem Quiet.rel {s t : State} (h : Quiet s t) (n : LaneIx) : t.rel n = s.rel n := by simp only [State.rel, h.releases]
theorem Quiet.key {s t : State} (h : Quiet s t) (i : Nat) : t.key i = s.key i := by simp only [State.key, h.keys]

theorem setSticky_quiet (s : State) (k : EventKind) : Quiet s (s.setSticky k) :=
  ⟨setSticky_sends s k, rfl, rfl, rfl, fun _ => rfl⟩

theorem setLink_quiet (s : State) (p : PortId) (l : Link) (h : Sends s (s.setLink p l)) : Quiet s (s.setLink p l) :=
  ⟨h, by simp, by simp, by simp, fun n => (port_setLink_items s p l n).2.1⟩

theorem place_quiet (s : State) (p : PortId) (x : Notice) (h : s.hasRoom p = true) : Quiet s (s.place p (.notice x)) :=
  setLink_quiet s p _ (place_sends s p x h)

theorem countLost_quiet (s : State) (p : PortId) : Quiet s (s.countLost p) := setLink_quiet s p _ (countLost_sends s p)

theorem raise_quiet (s : State) (e : Event) : Quiet s (s.raise e) := by
  unfold State.raise
  split
  · have h1 := setSticky_quiet s e.kind
    dsimp only
    split
    · split
      · exact h1.trans (place_quiet _ _ _ (by assumption))
      · exact (h1.trans (countLost_quiet _ _)).trans (setSticky_quiet _ _)
    · exact h1
  · exact Quiet.refl s

theorem notify_quiet (s : State) (n : LaneIx) (x : Notice) : Quiet s (s.notify n x) := by
  unfold State.notify
  split
  · split
    · exact place_quiet _ _ _ (by assumption)
    · exact (countLost_quiet _ _).trans (raise_quiet _ _)
  · exact Quiet.refl s

@[simp] theorem lane_raise (s : State) (e : Event) (n : LaneIx) : (s.raise e).lane n = s.lane n := (raise_quiet s e).lane n
@[simp] theorem rel_raise (s : State) (e : Event) (n : LaneIx) : (s.raise e).rel n = s.rel n := (raise_quiet s e).rel n
@[simp] theorem key_raise (s : State) (e : Event) (i : Nat) : (s.raise e).key i = s.key i := (raise_quiet s e).key i
@[simp] theorem raise_keys (s : State) (e : Event) : (s.raise e).keys = s.keys := (raise_quiet s e).keys
@[simp] theorem raise_clock (s : State) (e : Event) : (s.raise e).clock = s.clock := (raise_quiet s e).clock
@[simp] theorem raise_framer (s : State) (e : Event) : (s.raise e).framer = s.framer := (raise_quiet s e).framer
@[simp] theorem raise_supply (s : State) (e : Event) : (s.raise e).supply = s.supply := (raise_quiet s e).supply
@[simp] theorem raise_kept (s : State) (e : Event) : (s.raise e).kept = s.kept := (raise_quiet s e).kept
@[simp] theorem raise_pending (s : State) (e : Event) : (s.raise e).pending = s.pending := (raise_quiet s e).pending
@[simp] theorem lane_notify (s : State) (m : LaneIx) (x : Notice) (n : LaneIx) : (s.notify m x).lane n = s.lane n :=
  (notify_quiet s m x).lane n
@[simp] theorem rel_notify (s : State) (m : LaneIx) (x : Notice) (n : LaneIx) : (s.notify m x).rel n = s.rel n :=
  (notify_quiet s m x).rel n
@[simp] theorem key_notify (s : State) (m : LaneIx) (x : Notice) (i : Nat) : (s.notify m x).key i = s.key i :=
  (notify_quiet s m x).key i
@[simp] theorem notify_keys (s : State) (m : LaneIx) (x : Notice) : (s.notify m x).keys = s.keys := (notify_quiet s m x).keys
@[simp] theorem notify_clock (s : State) (m : LaneIx) (x : Notice) : (s.notify m x).clock = s.clock := (notify_quiet s m x).clock
@[simp] theorem notify_framer (s : State) (m : LaneIx) (x : Notice) : (s.notify m x).framer = s.framer :=
  (notify_quiet s m x).framer
@[simp] theorem notify_supply (s : State) (m : LaneIx) (x : Notice) : (s.notify m x).supply = s.supply :=
  (notify_quiet s m x).supply
@[simp] theorem notify_kept (s : State) (m : LaneIx) (x : Notice) : (s.notify m x).kept = s.kept := (notify_quiet s m x).kept
@[simp] theorem notify_pending (s : State) (m : LaneIx) (x : Notice) : (s.notify m x).pending = s.pending :=
  (notify_quiet s m x).pending

/-! ## Ends of shows, grants, clearings -/

theorem dropShow_sends (n : LaneIx) (st : LaneState) (s : State) : Sends s (dropShow n st s) := setLane_sends _ _ _

theorem reportShowEnd_quiet (n : LaneIx) (l : Lane) (reason : ShowReason) (s : State) : Quiet s (reportShowEnd n l reason s) := by
  unfold reportShowEnd
  split
  · exact Quiet.refl s
  · split
    · exact notify_quiet _ _ _
    · exact Quiet.refl s

theorem reportShowEnd_sends (n : LaneIx) (l : Lane) (reason : ShowReason) (s : State) :
    Sends s (reportShowEnd n l reason s) := (reportShowEnd_quiet n l reason s).toSends

theorem cancelDeadlines_sends (n : LaneIx) (s : State) : Sends s (cancelDeadlines n s) := setRel_sends _ _ _

theorem recordQuarantine_sends (n : LaneIx) (cause : QuarantineCause) (s : State) : Sends s (recordQuarantine n cause s) :=
  (cancelDeadlines_sends n s).trans (raise_sends _ _)

theorem quarantine_sends (n : LaneIx) (cause : QuarantineCause) (s : State) : Sends s (quarantine n cause s) := by
  unfold quarantine
  split
  · exact Sends.refl s
  · have h := dropShow_sends n .quarantine s
    refine Sends.trans ?_ (recordQuarantine_sends n cause _)
    split
    · exact h.trans (reportShowEnd_sends _ _ _ _)
    · exact h

theorem withdraw_sends (n : LaneIx) (a : ActiveReel) (s : State) : Sends s (withdraw n a s) :=
  (setRel_sends _ _ _).trans (notify_sends _ _ _)

theorem endShowWith_sends (n : LaneIx) (reason : ShowReason) (f : State → State) (hf : ∀ s, Sends s (f s)) (s : State) :
    Sends s (endShowWith n reason f s) := by
  unfold endShowWith
  split
  · exact Sends.refl s
  · split
    · exact (hf s).trans (quarantine_sends _ _ _)
    · exact (((withdraw_sends n _ s).trans (hf _)).trans (dropShow_sends _ _ _)).trans (reportShowEnd_sends _ _ _ _)

theorem endShow_sends (n : LaneIx) (reason : ShowReason) (s : State) : Sends s (endShow n reason s) :=
  endShowWith_sends n reason id Sends.refl s

theorem screenErased_sends (n : LaneIx) (s : State) : Sends s (screenErased n s) := by
  unfold screenErased
  split
  · exact (dropShow_sends n .idle s).trans (reportShowEnd_sends _ _ _ _)
  · exact Sends.refl s

theorem issueGrant_sends (n : LaneIx) (slot : Nat) (tag : ReelTag) (d : Nat) (s : State) :
    Sends s (issueGrant n slot tag d s).1 := by
  unfold issueGrant
  dsimp only
  split
  · exact setRel_sends _ _ _
  · exact ((setRel_sends _ _ _).trans (setKey_sends _ _ _)).trans (notify_sends _ _ _)

theorem countDownLane_sends (n : LaneIx) (s : State) : Sends s (countDownLane n s) := by
  unfold countDownLane
  split
  · exact setRel_sends _ _ _
  · split
    · exact setRel_sends _ _ _
    · exact Sends.refl s

theorem timeOutWithdrawals_sends (n : LaneIx) (s : State) : Sends s (timeOutWithdrawals n s) := by
  unfold timeOutWithdrawals
  dsimp only
  split
  · exact (setLane_sends _ _ _).trans (quarantine_sends _ _ _)
  · exact Sends.refl s

theorem timeOutClearing_sends (n : LaneIx) (s : State) : Sends s (timeOutClearing n s) := by
  unfold timeOutClearing
  split
  · exact quarantine_sends _ _ _
  · exact Sends.refl s

theorem startClearing_sends (n : LaneIx) (s : State) : Sends s (startClearing n s) :=
  ((notify_sends _ _ _).trans (setRel_sends _ _ _)).trans (setLane_sends _ _ _)

theorem laneBind_sends (n : LaneIx) (s : State) : Sends s (laneBind n s) := by
  unfold laneBind
  split
  · split
    · exact startClearing_sends n s
    · exact setLane_sends _ _ _
  · exact Sends.refl s

theorem laneUnbind_sends (n : LaneIx) (s : State) : Sends s (laneUnbind n s) :=
  ((dropShow_sends n .offline s).trans (cancelDeadlines_sends n _)).trans (setRel_sends _ _ _)

theorem identityChange_sends (n : LaneIx) (s : State) : Sends s (identityChange n s) := by
  unfold identityChange
  split
  · exact Sends.refl s
  · split
    · exact (dropShow_sends n .offline s).trans (cancelDeadlines_sends n _)
    · exact (dropShow_sends n .quarantine s).trans (recordQuarantine_sends n _ _)

theorem erasedAt_sends (n : LaneIx) (serial : Nat) (s : State) : Sends s (erasedAt n serial s).1 := by
  unfold erasedAt
  split
  · exact Sends.refl s
  · split
    · exact setRel_sends _ _ _
    · split
      · exact (screenErased_sends n s).trans (setRel_sends _ _ _)
      · exact Sends.refl s

theorem erasedAllAt_sends (n : LaneIx) (s : State) : Sends s (erasedAllAt n s).1 := by
  have h : Sends s (eraseEverything n s) := (screenErased_sends n s).trans (setRel_sends _ _ _)
  unfold erasedAllAt
  dsimp only
  split
  · exact ((setRel_sends _ _ _).trans (setLane_sends _ _ _)).trans (raise_sends _ _)
  · exact h
  · exact h
  · exact h
  · exact Sends.refl s
  · exact Sends.refl s

theorem restoreLane_sends (lane : Byte) (s : State) : Sends s (restoreLane lane s).1 := by
  unfold restoreLane
  split
  · exact Sends.refl s
  · split
    · exact startClearing_sends _ s
    · exact Sends.refl s

theorem voidHoldings_sends (lane : Byte) (s : State) : Sends s (voidHoldings lane s).1 := by
  unfold voidHoldings
  split
  · exact Sends.refl s
  · split
    · exact (setRel_sends _ _ _).trans (setLane_sends _ _ _)
    · exact Sends.refl s

/-! ## Checks and lanes -/

theorem noteOversubscribed_sends (n : LaneIx) (slot : Nat) (s : State) : Sends s (noteOversubscribed n slot s) := by
  unfold noteOversubscribed
  split
  · exact Sends.refl s
  · exact ((setKey_sends _ _ _).trans (setLane_sends _ _ _)).trans (raise_sends _ _)

theorem noteCheck_sends (n : LaneIx) (slot : Nat) (report : CheckReport) (s : State) : Sends s (noteCheck n slot report s) := by
  unfold noteCheck
  split
  · exact noteOversubscribed_sends _ _ _
  · exact Sends.refl s

theorem enterHeld_sends (n : LaneIx) (screen site : Bool) (s : State) : Sends s (enterHeld n screen site s) := by
  unfold enterHeld
  dsimp only
  split
  · exact (setLane_sends _ _ _).trans (endShow_sends _ _ _)
  · exact setLane_sends _ _ _

theorem releaseLastHold_sends (n : LaneIx) (s : State) : Sends s (releaseLastHold n s) := by
  unfold releaseLastHold
  split
  · exact Sends.refl s
  · split
    · exact setLane_sends _ _ _
    · exact endShow_sends _ _ _

theorem completeShow_sends (n : LaneIx) (s : State) : Sends s (completeShow n s) := by
  unfold completeShow
  dsimp only
  split
  · exact (endShow_sends _ _ _).trans (setLane_sends _ _ _)
  · exact endShow_sends _ _ _

theorem continuationBoundary_sends (n : LaneIx) (a : ActiveReel) (p : PendingReel) (s : State) :
    Sends s (continuationBoundary n a p s) := by
  unfold continuationBoundary
  split
  · exact endShow_sends _ _ _
  · exact (setLane_sends _ _ _).trans (notify_sends _ _ _)

theorem changeGrant_sends (n : LaneIx) (a : ActiveReel) (p : PendingReel) (s : State) : Sends s (changeGrant n a p s) := by
  unfold changeGrant
  exact (((withdraw_sends n a s).trans (issueGrant_sends _ _ _ _ _)).trans (setLane_sends _ _ _)).trans (notify_sends _ _ _)

theorem newGrantBoundary_sends (n : LaneIx) (a : ActiveReel) (p : PendingReel) (s : State) :
    Sends s (newGrantBoundary n a p s) := by
  unfold newGrantBoundary
  dsimp only
  refine Sends.trans (noteCheck_sends n p.slot (openingCheck false n p.slot p.label p.d s) s) ?_
  split
  · exact endShow_sends _ _ _
  · split
    · exact quarantine_sends _ _ _
    · exact changeGrant_sends _ _ _ _

theorem reachBoundary_sends (n : LaneIx) (a : ActiveReel) (s : State) : Sends s (reachBoundary n a s) := by
  unfold reachBoundary
  split
  · exact completeShow_sends _ _
  · split
    · exact continuationBoundary_sends _ _ _ _
    · exact newGrantBoundary_sends _ _ _ _

theorem laneTick_sends (n : LaneIx) (s : State) : Sends s (laneTick n s) := by
  unfold laneTick
  dsimp only
  split
  · split
    · exact (setLane_sends _ _ _).trans (reachBoundary_sends _ _ _)
    · exact setLane_sends _ _ _
  · split
    · exact (setLane_sends _ _ _).trans (endShow_sends _ _ _)
    · exact setLane_sends _ _ _
  · exact setLane_sends _ _ _

theorem expireAt_sends (slot : Nat) (n : LaneIx) (s : State) : Sends s (expireAt slot n s) := by
  unfold expireAt
  split
  · exact endShow_sends _ _ _
  · exact Sends.refl s

theorem expiryNotice_sends (slot : Nat) (s : State) : Sends s (expiryNotice slot s) :=
  forLanes_sends _ (expireAt_sends slot) s

theorem revokeAt_sends (slot : Nat) (n : LaneIx) (s : State) : Sends s (revokeAt slot n s) := by
  unfold revokeAt
  dsimp only
  split
  · have freed : ∀ (hit : Option PendingReel) (t : State), Sends t (match hit with
        | none => t
        | some p => t.notify n (.bufferFree .revoked p.tag none)) := by
      intro hit t
      cases hit with
      | none => exact Sends.refl t
      | some p => exact notify_sends _ _ _
    have h1 : ∀ b : Bool, Sends s (if b = true then s.setLane n { s.lane n with pending := none } else s) := by
      intro b; split
      · exact setLane_sends _ _ _
      · exact Sends.refl s
    split
    · exact (h1 _).trans (endShowWith_sends n _ _ (freed _) _)
    · exact (h1 _).trans (freed _ _)
  · exact Sends.refl s

theorem revocationNotice_sends (slot : Nat) (s : State) : Sends s (revocationNotice slot s) :=
  forLanes_sends _ (revokeAt_sends slot) s

theorem recheckAt_sends (n : LaneIx) (s : State) : Sends s (recheckAt n s) := by
  unfold recheckAt
  split
  · split
    · exact Sends.refl s
    · exact endShow_sends _ _ _
  · exact Sends.refl s

theorem stepNotice_sends (s : State) : Sends s (stepNotice s) := forLanes_sends _ recheckAt_sends s

theorem newStart_sends (n : LaneIx) (slot : Nat) (label : Label) (d : Nat) (tag : ReelTag) (s : State) :
    Sends s (newStart n slot label d tag s).1 := by
  unfold newStart
  dsimp only
  split
  · exact noteCheck_sends _ _ _ _
  · have h := issueGrant_sends n slot tag d s
    split
    · exact (h.trans (setLane_sends _ _ _)).trans (enterHeld_sends _ _ _ _)
    · exact h.trans (setLane_sends _ _ _)

theorem storePending_sends (n : LaneIx) (p : PendingReel) (s : State) : Sends s (storePending n p s).1 := by
  unfold storePending
  split
  · exact Sends.refl s
  · dsimp only
    split
    · exact setLane_sends _ _ _
    · exact setLane_sends _ _ _

theorem queueReel_sends (n : LaneIx) (slot : Nat) (label : Label) (d : Nat) (tie : Bool) (tag : ReelTag) (s : State) :
    Sends s (queueReel n slot label d tie tag s).1 := by
  unfold queueReel
  repeat' split
  all_goals first | exact Sends.refl s | exact newStart_sends _ _ _ _ _ _ | exact storePending_sends _ _ _

theorem stopShow_sends (n : LaneIx) (s : State) : Sends s (stopShow n s).1 := by
  unfold stopShow
  split
  · exact endShow_sends _ _ _
  · exact Sends.refl s

theorem holdShow_sends (n : LaneIx) (s : State) : Sends s (holdShow n s).1 := by
  unfold holdShow
  split
  · exact enterHeld_sends _ _ _ _
  · exact setLane_sends _ _ _
  all_goals exact Sends.refl s

theorem resumeShow_sends (n : LaneIx) (s : State) : Sends s (resumeShow n s).1 := by
  unfold resumeShow
  split
  · dsimp only
    split
    · exact (setLane_sends _ _ _).trans (releaseLastHold_sends _ _)
    · exact setLane_sends _ _ _
  · exact Sends.refl s

theorem laneStatus_same (p : PortId) (lane : Byte) (s : State) : (laneStatus p lane s).1 = s := by
  unfold laneStatus
  split
  · rfl
  · split <;> rfl

/-! ## Keys -/

theorem evaluateSlot_sends (slot : Nat) (s : State) : Sends s (evaluateSlot slot s) := by
  unfold evaluateSlot
  split
  · exact Sends.refl s
  · dsimp only
    split
    · exact Sends.refl s
    · split
      · exact ((setKey_sends _ _ _).trans (raise_sends _ _)).trans (expiryNotice_sends _ _)
      · exact (setKey_sends _ _ _).trans (raise_sends _ _)

theorem evaluate_sends (s : State) : Sends s (evaluate s) := by
  unfold evaluate
  split
  · generalize s.keys.map Prod.fst = slots
    induction slots generalizing s with
    | nil => exact Sends.refl s
    | cons i slots ih =>
      by_cases h : (evaluateSlot i s).clock.usable = true
      · exact (evaluateSlot_sends i s).trans (ih _ h)
      · exact absurd ((congrArg Clock.usable (evaluateSlot_sends i s).clock).trans (by assumption)) h
  · exact Sends.refl s

theorem loadKey_sends (f : LoadFields) (kind : Byte) (s : State) : Sends s (loadKey f kind s).1 := by
  unfold loadKey
  cases loadChecks f s with
  | error refusal => exact Sends.refl s
  | ok material => exact (setKey_sends s f.slot _).trans (raise_sends _ _)

theorem revokeKey_sends (slot : Nat) (kind : Byte) (s : State) : Sends s (revokeKey slot kind s).1 := by
  unfold revokeKey
  split
  · exact Sends.refl s
  · split
    · exact Sends.refl s
    · split
      · exact Sends.refl s
      · dsimp only
        exact ((setKey_sends _ _ _).trans (raise_sends _ _)).trans (revocationNotice_sends _ _)

theorem purgeKey_sends (slot : Nat) (kind : Byte) (s : State) : Sends s (purgeKey slot kind s).1 := by
  unfold purgeKey
  split
  · exact Sends.refl s
  · split
    · exact Sends.refl s
    · split
      · exact Sends.refl s
      · dsimp only
        exact (setKeys_sends _ _).trans (raise_sends _ _)

theorem keyStatus_same (slot : Nat) (kind : Byte) (s : State) : (keyStatus slot kind s).1 = s := by
  unfold keyStatus
  split <;> rfl

/-! ## Bindings -/

theorem bindPort_sends (n : LaneIx) (identity : Identity) (s : State) : Sends s (bindPort n identity s) := by
  unfold bindPort
  dsimp only
  split
  · exact ((setPortState_sends _ _ _).trans (raise_sends _ _)).trans (laneBind_sends _ _)
  · exact (setPortState_sends _ _ _).trans (raise_sends _ _)

theorem judgeAnnounce_sends (n : LaneIx) (identity : Identity) (kind : Byte) (s : State) :
    Sends s (judgeAnnounce n identity kind s).1 := by
  unfold judgeAnnounce
  dsimp only
  split
  · exact setPortState_sends _ _ _
  · dsimp only
    split
    · exact setPortState_sends _ _ _
    · exact bindPort_sends _ _ _

theorem announce_sends (n : LaneIx) (identity : Identity) (kind : Byte) (s : State) :
    Sends s (announce n identity kind s).1 := by
  unfold announce
  split
  · split
    · exact Sends.refl s
    · refine Sends.trans ?_ (judgeAnnounce_sends _ _ _ _)
      unfold unbindForIdentity
      dsimp only
      split
      · exact ((setPortState_sends _ _ _).trans (raise_sends _ _)).trans (identityChange_sends _ _)
      · exact (setPortState_sends _ _ _).trans (raise_sends _ _)
  · exact judgeAnnounce_sends _ _ _ _

/-! ## Requests on screen ports (R165) -/

/-- Everything a request on a screen port can do to the rest of the part. -/
theorem answerScreen_sends (n : LaneIx) (r : Request) (s : State) : Sends s (answerScreen n r s).1 := by
  have hadmit : ∀ (allows : Binding → Bool) (kind : Byte) (owner : State → State × Reply),
      Sends s (owner s).1 → Sends s (underEntry n allows kind owner s).1 := by
    intro allows kind owner h
    unfold underEntry
    repeat' split
    all_goals first | exact Sends.refl s | exact h
  cases r with
  | announce identity => exact announce_sends _ _ _ _
  | queueReel => exact hadmit _ _ _ (queueReel_sends _ _ _ _ _ _ _)
  | stopShow => exact hadmit _ _ _ (stopShow_sends _ _)
  | holdShow => exact hadmit _ _ _ (holdShow_sends _ _)
  | resumeShow => exact hadmit _ _ _ (resumeShow_sends _ _)
  | erased => exact hadmit _ _ _ (erasedAt_sends _ _ _)
  | erasedAll => exact hadmit _ _ _ (erasedAllAt_sends _ _)
  | laneStatus lane =>
    refine hadmit _ _ _ ?_
    rw [laneStatus_same]
    exact Sends.refl s
  | clockStatus => exact hadmit _ _ _ (Sends.refl s)
  | _ => exact Sends.refl s

end Sys2Proof.Machine
end

