-- ==== Sys2Proof/Laws/Local.lean ====
section
/-! SUPPORT. What the work of one lane can do to the others: nothing; and to a key's record: count an opening and set its mark (R109, R123, R131). -/

namespace Sys2Proof.Machine

/-- A record but for its openings count and its mark. -/
def Key.settled (k : Key) : Key := { k with openings := 0, mark := false }

/-- Only lane n, its items in the Release Unit, its port and the management port may differ, and of a key's record its openings
count and its mark. -/
structure Local (n : LaneIx) (s t : State) : Prop where
  lane : ∀ m, m ≠ n → t.lane m = s.lane m
  rel : ∀ m, m ≠ n → t.rel m = s.rel m
  port : ∀ m, m ≠ n → t.port m = s.port m
  key : ∀ slot, (t.key slot).map Key.settled = (s.key slot).map Key.settled

theorem Local.refl (n : LaneIx) (s : State) : Local n s s :=
  ⟨fun _ _ => rfl, fun _ _ => rfl, fun _ _ => rfl, fun _ => rfl⟩

theorem Local.trans {n : LaneIx} {s t u : State} (h : Local n s t) (k : Local n t u) : Local n s u :=
  ⟨fun m hm => (k.lane m hm).trans (h.lane m hm), fun m hm => (k.rel m hm).trans (h.rel m hm),
    fun m hm => (k.port m hm).trans (h.port m hm), fun i => (k.key i).trans (h.key i)⟩

/-! ## The updates -/

theorem setLane_local (s : State) (n : LaneIx) (l : Lane) : Local n s (s.setLane n l) :=
  ⟨fun _ hm => lane_setLane_other s l hm, fun _ _ => rfl, fun _ _ => rfl, fun _ => rfl⟩

theorem setRel_local (s : State) (n : LaneIx) (r : Release) : Local n s (s.setRel n r) :=
  ⟨fun _ _ => rfl, fun _ hm => rel_setRel_other s r hm, fun _ _ => rfl, fun _ => rfl⟩

theorem setPort_local (s : State) (n : LaneIx) (p : ScreenPort) : Local n s (s.setPort n p) :=
  ⟨fun _ _ => rfl, fun _ _ => rfl, fun _ hm => port_setPort_other s p hm, fun _ => rfl⟩

/-- A record written that differs from the slot's own in its openings count and mark alone. -/
theorem setKey_local (s : State) (n : LaneIx) (slot : Nat) (k k' : Key) (h : s.key slot = some k)
    (hk : k'.settled = k.settled) : Local n s (s.setKey slot k') := by
  refine ⟨fun _ _ => rfl, fun _ _ => rfl, fun _ _ => rfl, fun i => ?_⟩
  by_cases hi : i = slot
  · subst hi; rw [key_setKey_same, h]; simp [hk]
  · rw [key_setKey_other _ _ hi]

theorem setLink_local (s : State) (n : LaneIx) (l : Link) : Local n s (s.setLink (.screen n) l) := setPort_local s n _

theorem setMgmt_local (s : State) (n : LaneIx) (l : Link) : Local n s (s.setLink .mgmt l) :=
  ⟨fun _ _ => rfl, fun _ _ => rfl, fun _ _ => rfl, fun _ => rfl⟩

theorem setSticky_local (s : State) (n : LaneIx) (k : EventKind) : Local n s (s.setSticky k) :=
  ⟨fun _ _ => rfl, fun _ _ => rfl, fun _ _ => rfl, fun _ => rfl⟩

/-! ## Events and notices -/

theorem raise_local (n : LaneIx) (s : State) (e : Event) : Local n s (s.raise e) := by
  unfold State.raise
  split
  · have h1 := setSticky_local s n e.kind
    dsimp only
    split
    · split
      · exact h1.trans (setMgmt_local _ _ _)
      · exact (h1.trans (setMgmt_local _ _ _)).trans (setSticky_local _ _ _)
    · exact h1
  · exact Local.refl n s

theorem notify_local (n : LaneIx) (s : State) (x : Notice) : Local n s (s.notify n x) := by
  unfold State.notify
  split
  · split
    · exact setLink_local _ _ _
    · exact (setLink_local _ _ _).trans (raise_local _ _ _)
  · exact Local.refl n s

/-! ## Ends of shows, grants, clearings -/

theorem reportShowEnd_local (n : LaneIx) (l : Lane) (reason : ShowReason) (s : State) :
    Local n s (reportShowEnd n l reason s) := by
  unfold reportShowEnd
  split
  · exact Local.refl n s
  · split
    · exact notify_local n s _
    · exact Local.refl n s

theorem recordQuarantine_local (n : LaneIx) (cause : QuarantineCause) (s : State) :
    Local n s (recordQuarantine n cause s) := (setRel_local _ _ _).trans (raise_local _ _ _)

theorem quarantine_local (n : LaneIx) (cause : QuarantineCause) (s : State) : Local n s (quarantine n cause s) := by
  unfold quarantine
  split
  · exact Local.refl n s
  · have h : Local n s (dropShow n .quarantine s) := setLane_local _ _ _
    refine Local.trans ?_ (recordQuarantine_local n cause _)
    split
    · exact h.trans (reportShowEnd_local _ _ _ _)
    · exact h

theorem withdraw_local (n : LaneIx) (a : ActiveReel) (s : State) : Local n s (withdraw n a s) :=
  (setRel_local _ _ _).trans (notify_local _ _ _)

theorem endShowWith_local (n : LaneIx) (reason : ShowReason) (f : State → State) (hf : ∀ s, Local n s (f s)) (s : State) :
    Local n s (endShowWith n reason f s) := by
  unfold endShowWith
  split
  · exact Local.refl n s
  · split
    · exact (hf s).trans (quarantine_local _ _ _)
    · exact (((withdraw_local n _ s).trans (hf _)).trans (setLane_local _ _ _)).trans (reportShowEnd_local _ _ _ _)

theorem endShow_local (n : LaneIx) (reason : ShowReason) (s : State) : Local n s (endShow n reason s) :=
  endShowWith_local n reason id (Local.refl n) s

theorem screenErased_local (n : LaneIx) (s : State) : Local n s (screenErased n s) := by
  unfold screenErased
  split
  · exact (setLane_local s n _).trans (reportShowEnd_local _ _ _ _)
  · exact Local.refl n s

theorem issueGrant_local (n : LaneIx) (slot : Nat) (tag : ReelTag) (d : Nat) (s : State) :
    Local n s (issueGrant n slot tag d s).1 := by
  unfold issueGrant
  dsimp only
  split
  · exact setRel_local _ _ _
  · next k hk =>
    exact ((setRel_local _ _ _).trans (setKey_local _ n slot k { k with openings := bump k.openings } hk rfl)).trans
      (notify_local _ _ _)

theorem countDownLane_local (n : LaneIx) (s : State) : Local n s (countDownLane n s) := by
  unfold countDownLane
  split
  · exact setRel_local _ _ _
  · split
    · exact setRel_local _ _ _
    · exact Local.refl n s

theorem timeOutWithdrawals_local (n : LaneIx) (s : State) : Local n s (timeOutWithdrawals n s) := by
  unfold timeOutWithdrawals
  dsimp only
  split
  · exact (setLane_local _ _ _).trans (quarantine_local _ _ _)
  · exact Local.refl n s

theorem timeOutClearing_local (n : LaneIx) (s : State) : Local n s (timeOutClearing n s) := by
  unfold timeOutClearing
  split
  · exact quarantine_local _ _ _
  · exact Local.refl n s

theorem startClearing_local (n : LaneIx) (s : State) : Local n s (startClearing n s) :=
  ((notify_local _ _ _).trans (setRel_local _ _ _)).trans (setLane_local _ _ _)

theorem laneBind_local (n : LaneIx) (s : State) : Local n s (laneBind n s) := by
  unfold laneBind
  split
  · split
    · exact startClearing_local n s
    · exact setLane_local _ _ _
  · exact Local.refl n s

theorem laneUnbind_local (n : LaneIx) (s : State) : Local n s (laneUnbind n s) :=
  ((setLane_local s n _).trans (setRel_local _ _ _)).trans (setRel_local _ _ _)

theorem identityChange_local (n : LaneIx) (s : State) : Local n s (identityChange n s) := by
  unfold identityChange
  split
  · exact Local.refl n s
  · split
    · exact (setLane_local s n _).trans (setRel_local _ _ _)
    · exact (setLane_local s n _).trans (recordQuarantine_local _ _ _)

theorem erasedAt_local (n : LaneIx) (serial : Nat) (s : State) : Local n s (erasedAt n serial s).1 := by
  unfold erasedAt
  split
  · exact Local.refl n s
  · split
    · exact setRel_local _ _ _
    · split
      · exact (screenErased_local n s).trans (setRel_local _ _ _)
      · exact Local.refl n s

theorem erasedAllAt_local (n : LaneIx) (s : State) : Local n s (erasedAllAt n s).1 := by
  have h : Local n s (eraseEverything n s) := (screenErased_local n s).trans (setRel_local _ _ _)
  unfold erasedAllAt
  dsimp only
  split
  · exact ((setRel_local s n _).trans (setLane_local _ _ _)).trans (raise_local _ _ _)
  · exact h
  · exact h
  · exact h
  · exact Local.refl n s
  · exact Local.refl n s

/-! ## Checks, holds, boundaries, ticks -/

theorem noteOversubscribed_local (n : LaneIx) (slot : Nat) (s : State) : Local n s (noteOversubscribed n slot s) := by
  unfold noteOversubscribed
  split
  · exact Local.refl n s
  · next k hk =>
    exact ((setKey_local s n slot k { k with mark := true } hk rfl).trans (setLane_local _ _ _)).trans (raise_local _ _ _)

theorem noteCheck_local (n : LaneIx) (slot : Nat) (report : CheckReport) (s : State) : Local n s (noteCheck n slot report s) := by
  unfold noteCheck
  split
  · exact noteOversubscribed_local _ _ _
  · exact Local.refl n s

theorem enterHeld_local (n : LaneIx) (screen site : Bool) (s : State) : Local n s (enterHeld n screen site s) := by
  unfold enterHeld
  dsimp only
  split
  · exact (setLane_local _ _ _).trans (endShow_local _ _ _)
  · exact setLane_local _ _ _

theorem releaseLastHold_local (n : LaneIx) (s : State) : Local n s (releaseLastHold n s) := by
  unfold releaseLastHold
  split
  · exact Local.refl n s
  · split
    · exact setLane_local _ _ _
    · exact endShow_local _ _ _

theorem reachBoundary_local (n : LaneIx) (a : ActiveReel) (s : State) : Local n s (reachBoundary n a s) := by
  unfold reachBoundary
  split
  · unfold completeShow
    dsimp only
    split
    · exact (endShow_local _ _ _).trans (setLane_local _ _ _)
    · exact endShow_local _ _ _
  · split
    · unfold continuationBoundary
      split
      · exact endShow_local _ _ _
      · exact (setLane_local _ _ _).trans (notify_local _ _ _)
    · unfold newGrantBoundary
      dsimp only
      next p _ _ =>
      refine Local.trans (noteCheck_local n p.slot (openingCheck false n p.slot p.label p.d s) s) ?_
      split
      · exact endShow_local _ _ _
      · split
        · exact quarantine_local _ _ _
        · unfold changeGrant
          exact (((withdraw_local n a _).trans (issueGrant_local _ _ _ _ _)).trans (setLane_local _ _ _)).trans
            (notify_local _ _ _)

theorem laneTick_local (n : LaneIx) (s : State) : Local n s (laneTick n s) := by
  unfold laneTick
  dsimp only
  split
  · split
    · exact (setLane_local _ _ _).trans (reachBoundary_local _ _ _)
    · exact setLane_local _ _ _
  · split
    · exact (setLane_local _ _ _).trans (endShow_local _ _ _)
    · exact setLane_local _ _ _
  · exact setLane_local _ _ _

/-! ## Requests on screen ports -/

theorem newStart_local (n : LaneIx) (slot : Nat) (label : Label) (d : Nat) (tag : ReelTag) (s : State) :
    Local n s (newStart n slot label d tag s).1 := by
  unfold newStart
  dsimp only
  split
  · exact noteCheck_local _ _ _ _
  · have h := issueGrant_local n slot tag d s
    split
    · exact (h.trans (setLane_local _ _ _)).trans (enterHeld_local _ _ _ _)
    · exact h.trans (setLane_local _ _ _)

theorem queueReel_local (n : LaneIx) (slot : Nat) (label : Label) (d : Nat) (tie : Bool) (tag : ReelTag) (s : State) :
    Local n s (queueReel n slot label d tie tag s).1 := by
  have hp : ∀ p, Local n s (storePending n p s).1 := by
    intro p
    unfold storePending
    split
    · exact Local.refl n s
    · dsimp only
      split
      · exact setLane_local _ _ _
      · exact setLane_local _ _ _
  unfold queueReel
  repeat' split
  all_goals first | exact Local.refl n s | exact newStart_local _ _ _ _ _ _ | exact hp _

theorem announce_local (n : LaneIx) (identity : Identity) (kind : Byte) (s : State) :
    Local n s (announce n identity kind s).1 := by
  have bind : ∀ s, Local n s (bindPort n identity s) := by
    intro s
    unfold bindPort
    dsimp only
    split
    · exact ((setPort_local s n _).trans (raise_local _ _ _)).trans (laneBind_local _ _)
    · exact (setPort_local s n _).trans (raise_local _ _ _)
  have judge : ∀ s, Local n s (judgeAnnounce n identity kind s).1 := by
    intro s
    unfold judgeAnnounce
    dsimp only
    split
    · exact setPort_local s n _
    · dsimp only
      split
      · exact setPort_local s n _
      · exact bind s
  unfold announce
  split
  · split
    · exact Local.refl n s
    · refine Local.trans ?_ (judge _)
      unfold unbindForIdentity
      dsimp only
      split
      · exact ((setPort_local s n _).trans (raise_local _ _ _)).trans (identityChange_local _ _)
      · exact (setPort_local s n _).trans (raise_local _ _ _)
  · exact judge s

/-- Everything a request on a screen port can do to the other lanes and to the keys (R165). -/
theorem answerScreen_local (n : LaneIx) (r : Request) (s : State) : Local n s (answerScreen n r s).1 := by
  have hadmit : ∀ (allows : Binding → Bool) (kind : Byte) (owner : State → State × Reply),
      Local n s (owner s).1 → Local n s (underEntry n allows kind owner s).1 := by
    intro allows kind owner h
    unfold underEntry
    repeat' split
    all_goals first | exact Local.refl n s | exact h
  cases r with
  | announce identity => exact announce_local _ _ _ _
  | queueReel => exact hadmit _ _ _ (queueReel_local _ _ _ _ _ _ _)
  | stopShow =>
    refine hadmit _ _ _ ?_
    unfold stopShow
    split
    · exact endShow_local _ _ _
    · exact Local.refl n s
  | holdShow =>
    refine hadmit _ _ _ ?_
    unfold holdShow
    split
    · exact enterHeld_local _ _ _ _
    · exact setLane_local _ _ _
    all_goals exact Local.refl n s
  | resumeShow =>
    refine hadmit _ _ _ ?_
    unfold resumeShow
    split
    · dsimp only
      split
      · exact (setLane_local _ _ _).trans (releaseLastHold_local _ _)
      · exact setLane_local _ _ _
    · exact Local.refl n s
  | erased => exact hadmit _ _ _ (erasedAt_local _ _ _)
  | erasedAll => exact hadmit _ _ _ (erasedAllAt_local _ _)
  | laneStatus lane =>
    refine hadmit _ _ _ ?_
    rw [laneStatus_same]
    exact Local.refl n s
  | clockStatus => exact hadmit _ _ _ (Local.refl n s)
  | _ => exact Local.refl n s

end Sys2Proof.Machine
end

