-- ==== Sys2Proof/Laws/Requests.lean ====
section
/-! SUPPORT. What the arrival of a request's frame does on a port that takes at once, on one that does not listen, and on one that is full (R158, R163, R171). -/

namespace Sys2Proof.Machine

/-- The state in which a request is handled on a port whose buffer was empty: the reply's place is kept (R163). -/
def State.holding (s : State) (p : PortId) : State := { s with kept := some p }

/-- The end of a request's event: the reply placed last, and no place kept (R171). -/
def replyOn (p : PortId) (tag : Byte) (done : State × Reply) : State :=
  { done.1.place p (.reply tag done.2) with kept := none }

@[simp] theorem lane_holding (s : State) (p : PortId) (n : LaneIx) : (s.holding p).lane n = s.lane n := rfl
@[simp] theorem rel_holding (s : State) (p : PortId) (n : LaneIx) : (s.holding p).rel n = s.rel n := rfl
@[simp] theorem port_holding (s : State) (p : PortId) (n : LaneIx) : (s.holding p).port n = s.port n := rfl
@[simp] theorem key_holding (s : State) (p : PortId) (i : Nat) : (s.holding p).key i = s.key i := rfl
@[simp] theorem link_holding (s : State) (p q : PortId) : (s.holding p).link q = s.link q := by cases q <;> rfl
@[simp] theorem holding_clock (s : State) (p : PortId) : (s.holding p).clock = s.clock := rfl
@[simp] theorem holding_framer (s : State) (p : PortId) : (s.holding p).framer = s.framer := rfl
@[simp] theorem holding_keys (s : State) (p : PortId) : (s.holding p).keys = s.keys := rfl
@[simp] theorem holding_supply (s : State) (p : PortId) : (s.holding p).supply = s.supply := rfl
@[simp] theorem holding_kept (s : State) (p : PortId) : (s.holding p).kept = some p := rfl
@[simp] theorem holding_pending (s : State) (p : PortId) : (s.holding p).pending = s.pending := rfl

@[simp] theorem lane_place (s : State) (p : PortId) (f : TxFrame) (n : LaneIx) : (s.place p f).lane n = s.lane n :=
  lane_setLink _ _ _ _
@[simp] theorem rel_place (s : State) (p : PortId) (f : TxFrame) (n : LaneIx) : (s.place p f).rel n = s.rel n :=
  rel_setLink _ _ _ _
@[simp] theorem place_keys (s : State) (p : PortId) (f : TxFrame) : (s.place p f).keys = s.keys := setLink_keys _ _ _
@[simp] theorem key_place (s : State) (p : PortId) (f : TxFrame) (i : Nat) : (s.place p f).key i = s.key i := by
  simp only [State.key, place_keys]
@[simp] theorem place_clock (s : State) (p : PortId) (f : TxFrame) : (s.place p f).clock = s.clock := setLink_clock _ _ _
@[simp] theorem place_framer (s : State) (p : PortId) (f : TxFrame) : (s.place p f).framer = s.framer := setLink_framer _ _ _
@[simp] theorem place_supply (s : State) (p : PortId) (f : TxFrame) : (s.place p f).supply = s.supply := setLink_supply _ _ _
@[simp] theorem place_kept (s : State) (p : PortId) (f : TxFrame) : (s.place p f).kept = s.kept := setLink_kept _ _ _
@[simp] theorem place_pending (s : State) (p : PortId) (f : TxFrame) : (s.place p f).pending = s.pending :=
  setLink_pending _ _ _
@[simp] theorem place_sticky (s : State) (p : PortId) (f : TxFrame) : (s.place p f).sticky = s.sticky := setLink_sticky _ _ _
@[simp] theorem link_place_same (s : State) (p : PortId) (f : TxFrame) :
    (s.place p f).link p = { s.link p with tx := (s.link p).tx ++ [f] } := link_setLink_same _ _ _

/-- A port with an empty buffer has no request to take. -/
theorem takeRequest_of_empty (p : PortId) (s : State) (h : (s.link p).buffer = none) : takeRequest p s = s := by
  unfold takeRequest
  split
  · rw [h]
  · rfl

/-- A port with fewer than eight places free takes nothing (R163). -/
theorem takeRequest_of_full (p : PortId) (s : State) (h : 32 < (s.link p).tx.length + 8) : takeRequest p s = s := by
  have hc : (s.link p).canTake = false := by
    exact decide_eq_false (by simp only [Config.takePlaces, Config.txPlaces]; omega)
  simp [takeRequest, hc]

/-- The queue's next command is the taking of port p's request (log 2). -/
theorem takingNext_iff (p : PortId) (s : State) : takingNext p s = true ↔ s.pending.head? = some (.requestTaken p) := by
  unfold takingNext
  cases h : s.pending with
  | nil => simp
  | cons c rest => cases c <;> simp

/-- A taking that is due is left to the queue's next command where that is its REQUEST TAKEN (log 2). -/
theorem takeDue_of_next (p : PortId) (s : State) (h : s.pending.head? = some (.requestTaken p)) : takeDue p s = s := by
  simp [takeDue, (takingNext_iff p s).2 h]

/-- A taking that is due is made at once otherwise (R163). -/
theorem takeDue_of_due (p : PortId) (s : State) (h : s.pending.head? ≠ some (.requestTaken p)) : takeDue p s = takeRequest p s := by
  have hn : takingNext p s = false := by
    cases ht : takingNext p s with
    | false => rfl
    | true => exact absurd ((takingNext_iff p s).1 ht) h
  simp [takeDue, hn]

/-- The frame sent leaves its list, and a taking that this makes due is made (R163, R164). -/
theorem sendFrame_of_cons (p : PortId) (f : TxFrame) (rest : List TxFrame) (s : State) (hl : s.listening p = true)
    (ht : (s.link p).tx = f :: rest) : sendFrame p s = takeDue p (s.setLink p { s.link p with tx := rest }) := by
  simp only [sendFrame, hl, if_true]
  cases h : (s.link p).tx with
  | nil => rw [h] at ht; cases ht
  | cons g more => rw [h] at ht; cases ht; rfl

/-- A port that does not listen takes nothing (R158). -/
theorem arrive_of_deaf (p : PortId) (tag : Byte) (r : Request) (s : State) (h : s.listening p = false) :
    arrive p tag r s = s := by
  simp [arrive, h]

/-- A port that takes at once handles the request that arrives, with the reply's place kept, and replies last (R163, R171). -/
theorem arrive_of_ready (p : PortId) (tag : Byte) (r : Request) (s : State) (h : s.ready p) :
    arrive p tag r s = replyOn p tag (answer p r (s.holding p)) := by
  obtain ⟨hl, hb, ht, -⟩ := h
  have h1 : enterBuffer p tag r s = s.setLink p { s.link p with buffer := some (tag, r) } := by
    simp only [enterBuffer, hb]
  have h2 : (s.setLink p { s.link p with buffer := some (tag, r) }).listening p = true := by
    rw [← hl]; cases p <;> simp [State.listening, State.running, State.isFitted]
  have h3 : ((s.setLink p { s.link p with buffer := some (tag, r) }).link p).canTake = true := by
    simpa [Link.canTake] using ht
  have h4 : beginTaking p (s.setLink p { s.link p with buffer := some (tag, r) }) = s.holding p := by
    have : { s.link p with buffer := none } = s.link p := by rw [← hb]
    simp only [beginTaking, link_setLink_same, setLink_setLink, State.holding]
    rw [this, setLink_self]
  have h5 : ((s.setLink p { s.link p with buffer := some (tag, r) }).link p).buffer = some (tag, r) := by
    rw [link_setLink_same]
  simp only [arrive, hl, if_true, takeRequest_of_empty p s hb, h1]
  generalize s.setLink p { s.link p with buffer := some (tag, r) } = t at h2 h3 h4 h5 ⊢
  simp only [takeRequest, h2, h3, h5, Bool.and_self, if_true, handle, h4, replyOn]

/-- Every request row is the arrival of its request. -/
theorem exec_onPort (p : PortId) (tag : Byte) (r : Request) (s : State) :
    exec (onPort p tag r) s = .next (arrive p tag r s) := by
  cases r <;> rfl

/-- A request row on a port that takes at once. -/
theorem exec_of_ready (p : PortId) (tag : Byte) (r : Request) (s : State) (h : s.ready p) :
    exec (onPort p tag r) s = .next (replyOn p tag (answer p r (s.holding p))) := by
  rw [exec_onPort, arrive_of_ready p tag r s h]

/-- A request of a bound port whose entry admits it goes to its owner (R165). -/
theorem underEntry_of_bound (n : LaneIx) (allows : Binding → Bool) (kind : Byte) (owner : State → State × Reply) (s : State)
    (hb : (s.port n).state.isBound = true) (ha : allows (s.port n).entry = true) :
    underEntry n allows kind owner s = owner s := by
  simp [underEntry, hb, ha]

/-- An answer that leaves the state as it was: only the reply is placed. -/
theorem replyOn_same (p : PortId) (tag : Byte) (s : State) (r : Reply) (h : s.kept = none) :
    replyOn p tag (s.holding p, r) = s.place p (.reply tag r) := by
  cases p with
  | mgmt => simp [replyOn, State.place, State.setLink, State.link, State.holding, h]
  | screen n => simp [replyOn, State.place, State.setLink, State.link, State.holding, State.setPort, State.port, h]

end Sys2Proof.Machine
end

