-- ==== Sys2Proof/Laws/Room.lean ====
section
/-! SUPPORT. Events and notices where their list has room: they are placed, and the place kept for a reply changes nothing (R163, R164, R174). -/

namespace Sys2Proof.Machine

/-- A list with two free places has room for a notice, whatever place is kept (R163). -/
theorem hasRoom_of_places (s : State) (p : PortId) (h : (s.link p).tx.length + 1 < 32) : s.hasRoom p = true := by
  simp only [State.hasRoom, Config.txPlaces]
  apply decide_eq_true
  split <;> omega

/-- An event of a part at work, the management list having room: its sticky flag is set, and its notice is placed where the mask
enables its kind (R174). -/
theorem raise_of_room (s : State) (e : Event) (hr : s.running = true) (h : s.hasRoom .mgmt = true) :
    s.raise e = { s with
      sticky := s.sticky ||| e.kind.bit
      mgmt := if s.mask.getLsbD e.kind.code = true then { s.mgmt with tx := s.mgmt.tx ++ [.notice (.event s.clock.t e)] }
        else s.mgmt } := by
  have hroom : (s.setSticky e.kind).hasRoom .mgmt = true := h
  simp only [State.raise, hr, if_true, hroom]
  split
  · next hm =>
    have hm' : s.mask.getLsbD e.kind.code = true := hm
    simp [hm', State.place, State.setLink, State.link, State.setSticky]
  · next hm =>
    have hm' : s.mask.getLsbD e.kind.code = false := by simpa [State.setSticky] using hm
    simp [hm', State.setSticky]

/-- While the part is not at work no event is taken (R180). -/
theorem raise_of_rest (s : State) (e : Event) (h : s.running = false) : s.raise e = s := by
  simp [State.raise, h]

/-- An event kind's own bit is set in its one-bit map (R188). -/
theorem EventKind.bit_code (k : EventKind) : k.bit.getLsbD k.code = true := by cases k <;> decide

/-- An event sets its kind's sticky flag (R176). -/
theorem raise_sticky (s : State) (e : Event) (hr : s.running = true) : (s.raise e).sticky.getLsbD e.kind.code = true := by
  have hbit := e.kind.bit_code
  have h1 : (s.setSticky e.kind).sticky.getLsbD e.kind.code = true := by simp [State.setSticky, hbit]
  simp only [State.raise, hr, if_true]
  split
  · split
    · simpa using h1
    · simp only [State.setSticky, State.countLost, setLink_sticky, BitVec.getLsbD_or]
      simp [hbit]
  · exact h1

/-- An event raised with two places free, under a kept place or none. -/
theorem raise_holding (s : State) (p : PortId) (e : Event) (h : s.mgmt.tx.length + 1 < 32) :
    (s.holding p).raise e = (s.raise e).holding p := by
  by_cases hr : s.running = true
  · rw [raise_of_room s e hr (hasRoom_of_places s .mgmt h),
      raise_of_room (s.holding p) e hr (hasRoom_of_places (s.holding p) .mgmt h)]
    rfl
  · have h1 : s.running = false := by simpa using hr
    rw [raise_of_rest s e h1, raise_of_rest (s.holding p) e h1]

/-- A notice for a fitted port that has room is placed last (R164). -/
theorem notify_of_room (s : State) (n : LaneIx) (x : Notice) (hf : s.isFitted n = true) (h : s.hasRoom (.screen n) = true) :
    s.notify n x = s.place (.screen n) (.notice x) := by
  simp [State.notify, hf, h]

/-- No notice is made for an unfitted port (R164). -/
theorem notify_of_unfitted (s : State) (n : LaneIx) (x : Notice) (hf : s.isFitted n = false) : s.notify n x = s := by
  simp [State.notify, hf]

/-! ## What a placed frame leaves -/

@[simp] theorem place_mgmt_screen (s : State) (n : LaneIx) (f : TxFrame) : (s.place (.screen n) f).mgmt = s.mgmt := rfl
@[simp] theorem place_mask (s : State) (p : PortId) (f : TxFrame) : (s.place p f).mask = s.mask := setLink_mask _ _ _
@[simp] theorem place_siteHold (s : State) (p : PortId) (f : TxFrame) : (s.place p f).siteHold = s.siteHold :=
  setLink_siteHold _ _ _

theorem port_place_other (s : State) {n m : LaneIx} (f : TxFrame) (h : m ≠ n) : (s.place (.screen n) f).port m = s.port m :=
  port_setPort_other _ _ h

theorem link_place_other (s : State) {p q : PortId} (f : TxFrame) (h : q ≠ p) : (s.place p f).link q = s.link q :=
  link_setLink_other _ _ h

/-- Every item of a port but its link stays where a frame is placed. -/
theorem port_place_items (s : State) (p : PortId) (f : TxFrame) (n : LaneIx) :
    ((s.place p f).port n).entry = (s.port n).entry ∧ ((s.place p f).port n).state = (s.port n).state
      ∧ ((s.place p f).port n).slices = (s.port n).slices ∧ ((s.place p f).port n).dtInForce = (s.port n).dtInForce
      ∧ ((s.place p f).port n).degraded = (s.port n).degraded := port_setLink_items _ _ _ _

/-- What is fitted, at work and listening depends on the supplies alone. -/
theorem isFitted_congr {s t : State} (h : t.supply = s.supply) (n : LaneIx) : t.isFitted n = s.isFitted n := by
  simp only [State.isFitted, h]

theorem running_congr {s t : State} (h : t.supply = s.supply) : t.running = s.running := by simp only [State.running, h]

end Sys2Proof.Machine
end

