-- ==== Sys2Proof/Laws/Ticks.lean ====
section
/-! SUPPORT. What the elapsed tick and the framer's work leave alone: the settings always, and the clock wherever the clock itself does not act (R23, R24, R39). -/

namespace Sys2Proof.Machine

/-- The settings stay, and no sticky flag is lost: what every step of a tick and every work of the framer keeps. -/
structure Works (s t : State) : Prop where
  settings : s.keepsSettings t
  sticky : ∀ i, s.sticky.getLsbD i = true → t.sticky.getLsbD i = true

theorem Works.refl (s : State) : Works s s :=
  ⟨⟨rfl, rfl, rfl, rfl, rfl, rfl, rfl, fun _ => ⟨rfl, rfl, rfl, rfl⟩⟩, fun _ h => h⟩

theorem Works.trans {s t u : State} (h : Works s t) (k : Works t u) : Works s u := by
  obtain ⟨⟨h1, h2, h3, h4, h5, h6, h7, h8⟩, hs⟩ := h
  obtain ⟨⟨k1, k2, k3, k4, k5, k6, k7, k8⟩, ks⟩ := k
  exact ⟨⟨k1.trans h1, k2.trans h2, k3.trans h3, k4.trans h4, k5.trans h5, k6.trans h6, k7.trans h7, fun n =>
    ⟨(k8 n).1.trans (h8 n).1, (k8 n).2.1.trans (h8 n).2.1, (k8 n).2.2.1.trans (h8 n).2.2.1,
      (k8 n).2.2.2.trans (h8 n).2.2.2⟩⟩, fun i hi => ks i (hs i hi)⟩

theorem Sends.works {s t : State} (h : Sends s t) : Works s t := ⟨h.keepsRest.1, h.sticky⟩

theorem setClock_works (s : State) (c : Clock) : Works s (s.setClock c) := ⟨(Works.refl s).settings, fun _ h => h⟩

theorem setFramer_works (s : State) (f : Framer) : Works s (s.setFramer f) := ⟨(Works.refl s).settings, fun _ h => h⟩

/-- An operation on each of the lanes that only works, only works. -/
theorem forLanes_works (f : LaneIx → State → State) (h : ∀ n s, Works s (f n s)) (s : State) : Works s (s.forLanes f) := by
  unfold State.forLanes
  generalize allLanes = ls
  induction ls generalizing s with
  | nil => exact Works.refl s
  | cons n ls ih => exact (h n s).trans (ih (f n s))

/-- An operation on each of the lanes that leaves the clock, leaves the clock. -/
theorem forLanes_clock (f : LaneIx → State → State) (h : ∀ n s, (f n s).clock = s.clock) (s : State) :
    (s.forLanes f).clock = s.clock := by
  unfold State.forLanes
  generalize allLanes = ls
  induction ls generalizing s with
  | nil => rfl
  | cons n ls ih => exact (ih (f n s)).trans (h n s)

/-! ## The shares of a tick -/

theorem failTick_works (s : State) : Works s (failTick s) ∧ (failTick s).clock = s.clock := by
  unfold failTick
  dsimp only
  split
  · exact ⟨setFramer_works s _, rfl⟩
  · split
    · have h := raise_sends (s.setFramer { s.framer with
        tickOwed := false, failTimer := min 120 (s.framer.failTimer + 1), alarm := true })
        (.referenceFailed s.framer.state)
      exact ⟨(setFramer_works s _).trans h.works, h.clock⟩
    · exact ⟨setFramer_works s _, rfl⟩

theorem setPort_works (s : State) (n : LaneIx) (p : ScreenPort) (h : p.entry = (s.port n).entry) :
    Works s (s.setPort n p) := by
  refine ⟨⟨rfl, rfl, rfl, rfl, rfl, rfl, rfl, fun m => ⟨?_, rfl, rfl, rfl⟩⟩, fun _ h => h⟩
  by_cases hm : m = n
  · subst hm; rw [port_setPort_same]; exact h
  · rw [port_setPort_other _ _ hm]

theorem degrade_works (n : LaneIx) (s : State) : Works s (degrade n s) ∧ (degrade n s).clock = s.clock := by
  have h1 : Works s (s.setPort n { s.port n with degraded := true }) := setPort_works s n _ rfl
  have h2 := raise_sends (s.setPort n { s.port n with degraded := true })
    (.portDegraded n (s.port n).windowSum (s.port n).dtInForce)
  exact ⟨h1.trans h2.works, h2.clock⟩

theorem recover_works (n : LaneIx) (s : State) : Works s (recover n s) ∧ (recover n s).clock = s.clock := by
  have h1 : Works s (s.setPort n { s.port n with degraded := false }) := setPort_works s n _ rfl
  have h2 := raise_sends (s.setPort n { s.port n with degraded := false })
    (.portRecovered n (s.port n).windowSum (s.port n).dtInForce)
  exact ⟨h1.trans h2.works, h2.clock⟩

theorem portTick_works (n : LaneIx) (s : State) : Works s (portTick n s) ∧ (portTick n s).clock = s.clock := by
  unfold portTick
  split
  · dsimp only
    have h0 := setPort_works s n { s.port n with
      slices := (0 :: (s.port n).slices).take 8, dtInForce := (s.lane n).dt, state := (s.port n).state.spaced } rfl
    split
    · exact ⟨h0.trans (recover_works n _).1, (recover_works n _).2⟩
    · split
      · exact ⟨h0.trans (degrade_works n _).1, (degrade_works n _).2⟩
      · exact ⟨h0, rfl⟩
  · exact ⟨Works.refl s, rfl⟩

theorem shareFramer_works (apart : List TickPart) (s : State) :
    Works s (shareFramer apart s) ∧ (shareFramer apart s).clock = s.clock := by
  unfold shareFramer
  split
  · exact ⟨setFramer_works s _, rfl⟩
  · exact failTick_works s

theorem shareRelease_sends (apart : List TickPart) (n : LaneIx) (s : State) : Sends s (shareRelease apart n s) := by
  unfold shareRelease
  dsimp only
  split
  · exact countDownLane_sends n s
  · exact ((countDownLane_sends n s).trans (timeOutWithdrawals_sends n _)).trans (timeOutClearing_sends n _)

theorem shareLane_sends (apart : List TickPart) (n : LaneIx) (s : State) : Sends s (shareLane apart n s) := by
  unfold shareLane
  split
  · exact setLane_sends _ _ _
  · exact laneTick_sends n s

/-- What the handing on of a tick leaves: the settings and the clock (R24). -/
theorem handOn_works (apart : List TickPart) (s : State) : Works s (handOn apart s) ∧ (handOn apart s).clock = s.clock := by
  unfold handOn
  dsimp only
  split
  · have h1 := shareFramer_works apart s
    have h2 := forLanes_sends _ (shareRelease_sends apart) (shareFramer apart s)
    have h3 := forLanes_sends _ (shareLane_sends apart) ((shareFramer apart s).forLanes (shareRelease apart))
    have h4 := forLanes_works _ (fun n s => (portTick_works n s).1)
      (((shareFramer apart s).forLanes (shareRelease apart)).forLanes (shareLane apart))
    have h4c := forLanes_clock _ (fun n s => (portTick_works n s).2)
      (((shareFramer apart s).forLanes (shareRelease apart)).forLanes (shareLane apart))
    have h5 := evaluate_sends
      ((((shareFramer apart s).forLanes (shareRelease apart)).forLanes (shareLane apart)).forLanes portTick)
    exact ⟨(((h1.1.trans h2.works).trans h3.works).trans h4).trans h5.works,
      (((h5.clock.trans h4c).trans h3.clock).trans h2.clock).trans h1.2⟩
  · exact ⟨(evaluate_sends s).works, (evaluate_sends s).clock⟩

/-- What the shares still owed leave: the settings and the clock. -/
theorem settleTick_works (s : State) : Works s (settleTick s) ∧ (settleTick s).clock = s.clock := by
  unfold settleTick
  split
  · dsimp only
    have h1 : Works s (if s.framer.tickOwed then failTick s else s)
        ∧ (if s.framer.tickOwed then failTick s else s).clock = s.clock := by
      split
      · exact failTick_works s
      · exact ⟨Works.refl s, rfl⟩
    generalize (if s.framer.tickOwed then failTick s else s) = s1 at h1 ⊢
    have h2 := forLanes_sends (fun n s => timeOutClearing n (timeOutWithdrawals n s))
      (fun n s => (timeOutWithdrawals_sends n s).trans (timeOutClearing_sends n _)) s1
    generalize s1.forLanes (fun n s => timeOutClearing n (timeOutWithdrawals n s)) = s2 at h2 ⊢
    have h3 := forLanes_sends takeOwedLane (fun n s => by
      unfold takeOwedLane
      split
      · exact laneTick_sends n s
      · exact Sends.refl s) s2
    exact ⟨(h1.1.trans h2.works).trans h3.works, (h3.clock.trans h2.clock).trans h1.2⟩
  · exact ⟨Works.refl s, rfl⟩

/-! ## The clock's own steps -/

theorem announceTimeState_sends (before : TimeState) (cause : TimeCause) (s : State) :
    Sends s (announceTimeState before cause s) := (evaluate_sends s).trans (raise_sends _ _)

/-- The clock after the clock's own steps of a tick, by its time state (R24). -/
theorem clockTick_clock (s : State) : (clockTick s).clock = match s.clock.time with
    | .noTime => s.clock
    | .assured => s.clock.advanceT.raiseFloor
    | .unassured => s.clock.advanceT.advanceHoldover
    | .holdover =>
      if s.clock.advanceT.advanceHoldover.params.uc < s.clock.advanceT.advanceHoldover.u then
        { s.clock.advanceT.advanceHoldover with time := .unassured }
      else s.clock.advanceT.advanceHoldover.raiseFloor := by
  unfold clockTick
  cases h : s.clock.time with
  | noTime => rfl
  | assured => rfl
  | unassured => rfl
  | holdover =>
    dsimp only
    split
    · exact (announceTimeState_sends _ _ _).clock
    · rfl

theorem clockTick_clock_congr {s t : State} (h : s.clock = t.clock) : (clockTick s).clock = (clockTick t).clock := by
  rw [clockTick_clock, clockTick_clock, h]

theorem clockTick_works (s : State) : Works s (clockTick s) := by
  unfold clockTick
  split
  · exact Works.refl s
  · exact setClock_works s _
  · exact setClock_works s _
  · dsimp only
    split
    · exact ((setClock_works s _).trans (setClock_works _ _)).trans (announceTimeState_sends _ _ _).works
    · exact setClock_works s _

/-- Everything a tick leaves alone, and the clock it leaves (R24). -/
theorem tick_works (apart : List TickPart) (s : State) : Works s (tick apart s) :=
  ((settleTick_works s).1.trans (clockTick_works _)).trans (handOn_works apart _).1

theorem tick_clock (apart : List TickPart) (s : State) : (tick apart s).clock = (clockTick s).clock := by
  unfold tick
  rw [(handOn_works apart _).2]
  exact clockTick_clock_congr (settleTick_works s).2

/-- The second boundary at the oscillator changes its count alone (R23). -/
@[simp] theorem passBoundary_clock (s : State) :
    (passBoundary s).clock = { s.clock with osc := s.clock.osc - 32768 } := rfl

/-- One cycle of the oscillator: it counts, and where the count has reached a second it is an ELAPSED TICK with no share apart, which
does nothing in ASSURED (R23). -/
theorem oscillatorCycle_cases (s : State) : oscillatorCycle s =
    if s.retained = true then
      if s.clock.osc + 1 < 32768 ∨ s.clock.time = .assured then s.setClock { s.clock with osc := s.clock.osc + 1 }
      else oscillatorTick [] (s.setClock { s.clock with osc := s.clock.osc + 1 })
    else s := by
  unfold oscillatorCycle
  split
  · change (if 32768 ≤ s.clock.osc + 1 then oscillatorTick [] (s.setClock { s.clock with osc := s.clock.osc + 1 })
      else s.setClock { s.clock with osc := s.clock.osc + 1 }) = _
    by_cases ho : s.clock.osc + 1 < 32768
    · rw [if_neg (Nat.not_le.mpr ho), if_pos (Or.inl ho)]
    · rw [if_pos (Nat.not_lt.mp ho)]
      by_cases ha : s.clock.time = .assured
      · rw [if_pos (Or.inr ha)]; simp [oscillatorTick, ha]
      · rw [if_neg (by simp [ho, ha])]
  · rfl

/-! ## The clock at the framer's notices -/

theorem enterHoldover_sends (cause : TimeCause) (s : State) :
    Sends (s.setClock s.clock.toHoldover) (enterHoldover cause s) := announceTimeState_sends _ _ _

theorem enterHoldover_clock (cause : TimeCause) (s : State) : (enterHoldover cause s).clock = s.clock.toHoldover :=
  (enterHoldover_sends cause s).clock

/-- What a loss notice does: the memory goes, and an ASSURED clock enters HOLDOVER (R33, R34). -/
theorem lossNotice_cases (cause : TimeCause) (s : State) :
    lossNotice cause s = if s.clock.time = .assured then enterHoldover cause (s.setClock { s.clock with prev := none })
      else s.setClock { s.clock with prev := none } := rfl

/-- The clock after a loss notice (R33, R34). -/
theorem lossNotice_clock (cause : TimeCause) (s : State) : (lossNotice cause s).clock =
    if s.clock.time = .assured then ({ s.clock with prev := none } : Clock).toHoldover else { s.clock with prev := none } := by
  rw [lossNotice_cases]
  by_cases h : s.clock.time = .assured
  · rw [if_pos h, if_pos h, enterHoldover_clock]; rfl
  · rw [if_neg h, if_neg h]; rfl

/-- A loss notice changes the clock and sends. -/
theorem lossNotice_sends (cause : TimeCause) (s : State) :
    Sends (s.setClock (lossNotice cause s).clock) (lossNotice cause s) := by
  rw [lossNotice_cases]
  by_cases h : s.clock.time = .assured
  · rw [if_pos h, enterHoldover_clock]
    exact enterHoldover_sends cause (s.setClock { s.clock with prev := none })
  · rw [if_neg h]; exact Sends.refl _

end Sys2Proof.Machine
end

