-- ==== Sys2Proof/Laws/Supplies.lean ====
section
/-! SUPPORT. What is done when main fails or the reset input is asserted: everything that has come due, which leaves the settings alone, and the reset of the blocks (R181, R183, R184). -/

namespace Sys2Proof.Machine

/-! ## The framer's instants leave the settings -/

theorem lossNotice_works (cause : TimeCause) (s : State) : Works s (lossNotice cause s) :=
  (setClock_works s _).trans (lossNotice_sends cause s).works

theorem loseAlignment_works (cause : TimeCause) (s : State) : Works s (loseAlignment cause s) :=
  (setFramer_works s _).trans (lossNotice_works cause _)

theorem raise_works (s : State) (e : Event) : Works s (s.raise e) := (raise_sends s e).works

theorem silenceEntry_works (s : State) : Works s (silenceEntry s) := by
  unfold silenceEntry
  dsimp only
  repeat' split
  all_goals first
    | exact Works.refl s
    | exact setFramer_works s _
    | exact (setFramer_works s _).trans (lossNotice_works _ _)

theorem cleanWindow_works (s : State) : Works s (cleanWindow s) := by
  unfold cleanWindow
  split
  · exact setFramer_works s _
  · exact Works.refl s

theorem candidatePosition_works (s : State) : Works s (candidatePosition s) := by
  unfold candidatePosition
  dsimp only
  split
  · exact setFramer_works s _
  · exact Works.refl s

theorem mimic_works (s : State) : Works s (mimic s) := by
  unfold mimic
  dsimp only
  repeat' split
  all_goals first
    | exact Works.refl s
    | exact setFramer_works s _

theorem declareAlignment_works (candidate : Nat) (s : State) : Works s (declareAlignment candidate s) := by
  have h1 : ∀ p (s : State), Works s (recordPosition p s) := by
    intro p s
    unfold recordPosition
    split
    · exact Works.refl s
    · split
      · exact Works.refl s
      · exact (setFramer_works s _).trans (raise_works _ _)
  have h2 : ∀ p (s : State), Works s (restoreReference p s) := by
    intro p s
    unfold restoreReference
    split
    · exact (setFramer_works s _).trans (raise_works _ _)
    · exact Works.refl s
  exact ((h1 _ s).trans (setFramer_works _ _)).trans (h2 _ _)

theorem confirmTest_works (s : State) : Works s (confirmTest s) := by
  unfold confirmTest
  dsimp only
  repeat' split
  all_goals first
    | exact Works.refl s
    | exact declareAlignment_works _ s
    | exact setFramer_works s _

theorem announceStep_works (r : StepRecord) (lanesFirst : Bool) (s : State) : Works s (announceStep r lanesFirst s) := by
  unfold announceStep
  dsimp only
  split
  · exact (raise_works s _).trans ((stepNotice_sends _).works.trans (evaluate_sends _).works)
  · exact (raise_works s _).trans ((evaluate_sends _).works.trans (stepNotice_sends _).works)

theorem confirm_works (w q : Nat) (lanesFirst : Bool) (s : State) : Works s (confirm w q lanesFirst s) := by
  have h : ∀ u : State, Works s u →
      Works s (if s.clock.time = .assured then u else announceTimeState s.clock.time .confirmed u) := by
    intro u hu
    split
    · exact hu
    · exact hu.trans (announceTimeState_sends _ _ _).works
  unfold confirm
  apply h
  generalize s.clock.stepTo w = step
  cases step with
  | none => exact setClock_works s _
  | some r => exact (setClock_works s _).trans (announceStep_works r lanesFirst _)

theorem noteMiss_works (s : State) : Works s (noteMiss s) := by
  unfold noteMiss
  repeat' split
  · exact (setClock_works s _).trans (enterHoldover_sends _ s).works
  · exact setClock_works s _
  · exact Works.refl s

theorem noteRegression_works (w : Nat) (s : State) : Works s (noteRegression w s) := by
  unfold noteRegression
  repeat' split
  · exact Works.refl s
  · exact (setClock_works s _).trans (raise_works _ _)
  · exact Works.refl s

theorem reportNone_works (s : State) : Works s (reportNone s) := (setClock_works s _).trans (noteMiss_works _)

theorem reportCandidate_works (w q : Nat) (lanesFirst : Bool) (s : State) : Works s (reportCandidate w q lanesFirst s) := by
  unfold reportCandidate
  dsimp only
  split
  · exact (confirm_works w q lanesFirst s).trans (setClock_works _ _)
  · exact ((noteRegression_works w s).trans (noteMiss_works _)).trans (setClock_works _ _)

theorem deliver_works (covered : List LineBit) (lanesFirst : Bool) (s : State) : Works s (deliver covered lanesFirst s) := by
  have h : ∀ (bytes : List Byte) (s : State), Works s (captureBroadcast bytes s) := by
    intro bytes s
    unfold captureBroadcast
    dsimp only
    split
    · exact (setFramer_works s _).trans (raise_works _ _)
    · exact setFramer_works s _
  exact ((setFramer_works s _).trans (reportCandidate_works _ _ _ _)).trans (h _ _)

theorem strictConfirmTest_works (lanesFirst : Bool) (s : State) : Works s (strictConfirmTest lanesFirst s) := by
  unfold strictConfirmTest
  dsimp only
  repeat' split
  all_goals first
    | exact Works.refl s
    | exact setFramer_works s _
    | exact (declareAlignment_works _ s).trans (deliver_works _ _ _)

theorem superframeStart_works (apart : List TickPart) (s : State) : Works s (superframeStart apart s) := by
  unfold superframeStart
  dsimp only
  repeat' split
  · exact ((setFramer_works s _).trans (setClock_works _ _)).trans (tick_works apart _)
  · exact setFramer_works s _
  · exact Works.refl s

theorem alignmentTest_works (s : State) : Works s (alignmentTest s) := by
  unfold alignmentTest
  dsimp only
  repeat' split
  · exact (setFramer_works s _).trans (loseAlignment_works _ _)
  · exact setFramer_works s _
  · exact Works.refl s

theorem superframeEnd_works (lanesFirst : Bool) (s : State) : Works s (superframeEnd lanesFirst s) := by
  unfold superframeEnd
  dsimp only
  repeat' split
  all_goals first
    | exact (setFramer_works s _).trans (reportNone_works _)
    | exact (setFramer_works s _).trans (deliver_works _ _ _)
    | exact (setFramer_works s _).trans (loseAlignment_works _ _)
    | exact Works.refl s

/-- What the instants due at the end of a period leave: the settings, and every sticky flag that is set (R2 to R12). -/
theorem settleLine_works (s : State) : Works s (settleLine s) :=
  ((((((((silenceEntry_works s).trans (cleanWindow_works _)).trans (candidatePosition_works _)).trans (mimic_works _)).trans
    (confirmTest_works _)).trans (strictConfirmTest_works _ _)).trans (superframeStart_works _ _)).trans
    (alignmentTest_works _)).trans (superframeEnd_works _ _)

theorem endPeriod_works (s : State) : Works s (endPeriod s) := (settleLine_works s).trans (setFramer_works _ _)

/-! ## What has come due -/

/-- What the doing of everything due leaves: the settings, and every sticky flag that is set. -/
theorem settleDue_works (s : State) : Works s (settleDue s) := by
  have h : Works s (closePeriod s) := by
    unfold closePeriod
    split
    · exact endPeriod_works s
    · exact Works.refl s
  exact (h.trans (settleLine_works _)).trans (settleTick_works _).1

/-- Nothing comes due while the blocks are not at work. -/
theorem settleDue_of_stopped {s : State} (h : s.running = false) : settleDue s = s := by
  have h1 : silenceEntry s = s := by simp [silenceEntry, h]
  have h2 : cleanWindow s = s := by simp [cleanWindow, h]
  have h3 : candidatePosition s = s := by simp [candidatePosition, h]
  have h4 : mimic s = s := by unfold mimic; dsimp only; split <;> simp [h]
  have h5 : confirmTest s = s := by unfold confirmTest; dsimp only; split <;> simp [h]
  have h6 : strictConfirmTest false s = s := by unfold strictConfirmTest; dsimp only; split <;> simp [h]
  have h7 : superframeStart [] s = s := by simp [superframeStart, h]
  have h8 : alignmentTest s = s := by simp [alignmentTest, h]
  have h9 : superframeEnd false s = s := by simp [superframeEnd, h]
  have hl : settleLine s = s := by unfold settleLine; rw [h1, h2, h3, h4, h5, h6, h7, h8, h9]
  unfold settleDue closePeriod
  rw [h, Bool.false_and, if_neg Bool.false_ne_true, hl]
  unfold settleTick
  rw [h, if_neg Bool.false_ne_true]

/-! ## Main failing and the reset input -/

/-- What main failing does where main is present: what has come due, the clock's leaving of ASSURED, and the blocks held at their
values after main reset (R44, R181). -/
theorem failMain_of_on {s : State} (h : s.supply.mainOn = true) : failMain s =
    restartBlocks (clockLeavesMain (settleDue s).clock.regress { settleDue s with supply := { s.supply with
      mainOn := false, inReset := false, backupLostOwed := false } }) := by
  unfold failMain
  dsimp only
  rw [if_pos h, (settleDue_works s).settings.1]

/-- What a first assertion of the reset input does where main is present: what has come due, then main reset (R184). -/
theorem assertReset_of_on {s : State} (h : s.supply.mainOn = true) (hp : s.supply.resetPin = false) : assertReset s =
    mainReset { settleDue s with supply := { s.supply with resetPin := true } } := by
  unfold assertReset
  rw [if_neg (by rw [hp]; exact Bool.false_ne_true)]
  dsimp only
  rw [if_pos h, (settleDue_works s).settings.1]

end Sys2Proof.Machine
end

