-- ==== Sys2Proof/Tests/Slice0.lean ====
section
/-! SUPPORT. Tests: what the checks refuse, the manual's worked figures, and a state that meets the hypotheses of each statement. -/

set_option Elab.async false

namespace Sys2Proof.Tests

open Sys2Proof Sys2Proof.Machine

/-! ## States to test on -/

/-- The command has a next state from `s`, and `p` holds of it. -/
def gives (c : Instr) (s : State) (p : State → Bool) : Bool :=
  match exec c s with
  | .next t => p t
  | .fault _ => false
  | .refused _ => false

/-- Screen port n bound as SCREEN to identity 0x51, both classes admitted, its lane IDLE. -/
def bind (n : LaneIx) (s : State) : State :=
  (s.setPort n { s.port n with
    entry := { identity := none, role := .screen, showControl := true, queries := true }, state := .bound 0x51 }).setLane n
    { s.lane n with state := .idle }

/-- A clock in a time state with T and u_ms. -/
def timed (time : TimeState) (t uMs : Nat) (s : State) : State :=
  { s with clock := { s.clock with
    time := time, t := some t, uMs := some uMs, u0 := uMs, h := if time = .assured then none else some 0 } }

/-- The key of the manual's worked figures (5.8): NB 500,000, NA 520,000, A 1,800. -/
def film : Key :=
  { state := .opened, label := 7, material := 0xAB, nb := 500000, na := 520000, a := 1800, screens := 0xFFFF, c := 2,
    openings := 0, mark := false, expiredAt := none, revokedAt := none }

/-- Lane 0 bound and IDLE, the film in slot 3, the clock ASSURED at 510,000 with U 2. -/
def ready : State := (timed .assured 510000 2000 (bind 0 State.reset)).setKey 3 film

/-- Lane 0 runs the film in a state, under serial 41, with R left. -/
def showing (state : LaneState) (r : Nat) : State :=
  (ready.setLane 0 { ready.lane 0 with
    state := state, active := some { slot := 3, label := 7, tag := 0x10, r := r, serial := 41 } }).setRel 0
    { ready.rel 0 with nextSerial := 42, holdings := [3] }

/-- Lane 0 PLAYING with R left. -/
def playing (r : Nat) : State := showing .playing r

/-- Lane 0 HELD under flags, its timer at 5 of 6. -/
def held (screen site : Bool) : State :=
  let s := showing .held 100
  s.setLane 0 { s.lane 0 with screenHold := screen, siteHold := site, holdTimer := some 5, holdLimit := some 6 }

/-- Lane 0's next share of a tick is still owed. -/
def owing (s : State) : State := s.setLane 0 { s.lane 0 with tickOwed := true }

/-- Lane 0 with a pending reel. -/
def queued (slot d : Nat) (tie : Bool) (s : State) : State :=
  s.setLane 0 { s.lane 0 with pending := some { slot := slot, label := 7, d := d, tie := tie, tag := 0x20 } }

/-- Lane 0 with entries under serials 1, 2, … of slot 3, each with a countdown. -/
def entries (count : Nat) (countdown : Option Nat) (s : State) : State :=
  s.setRel 0 { s.rel 0 with
    holdings := [3], outstanding := (List.range count).map (fun i => { serial := i + 1, slot := 3, countdown := countdown }) }

/-- Lane 0 in a state, its slot 3 held. -/
def laneIn (state : LaneState) : State :=
  (ready.setLane 0 { ready.lane 0 with state := state }).setRel 0 { ready.rel 0 with holdings := [3] }

/-- A framer after its last period has ended, in a state, the latest eight overhead bits showing the pattern or not. -/
def framed (state : FramerState) (pattern : Bool) (s : State) : State :=
  { s with framer := { s.framer with
    state := state, fresh := true,
    history := (List.range 128).map (fun i =>
      if pattern && [0, 16, 24, 32, 56].contains i then .one else .zero) } }

/-- The framer ALIGNED at position 0 with a superframe period just begun. -/
def aligned (period : Nat) (pattern : Bool) (s : State) : State :=
  let s1 := framed .aligned pattern s
  { s1 with framer := { s1.framer with lastPosition := some 0, linePhase := period } }

/-- The framer in CONFIRM with a candidate of an age. -/
def confirming (age : Nat) (strict pattern : Bool) (gathered : Option (List LineBit)) (s : State) : State :=
  let s1 := framed .confirm pattern s
  { s1 with framer := { s1.framer with
    candidate := some { position := 56, age := age, strict := strict, gathered := gathered } } }

/-- The covered bits of a superframe whose 112 payload bits begin with a time word, the rest of them 0, with a quality. -/
def covered (w q : Nat) : List LineBit :=
  let bits (width v : Nat) : List LineBit := (List.range width).map (fun i => if v.testBit (width - 1 - i) then .one else .zero)
  bits 32 w ++ List.replicate 80 .zero ++ bits 2 q

/-- A list of frames of a length. -/
def waiting (count : Nat) : List TxFrame := List.replicate count (.notice (.withdraw 1 3))

/-! ## What the checks refuse (WellFormed) -/

theorem test_refuses_slots : (Instr.clearSticky .mgmt 0 0 0 (List.replicate 46 0)).wellFormed = false := by decide

theorem test_refuses_tick_twice :
    (Instr.elapsedTick [.framer, .framer]).wellFormed = false ∧ (Instr.superframeStart [.lane 2, .lane 2]).wellFormed = false
      ∧ (Instr.ceilingPassed [.release 1, .framer, .release 1]).wellFormed = false := by decide

theorem test_refuses_no_characters : (Instr.frameComplete .mgmt [] none).wellFormed = false := by decide

theorem test_refuses_short_gap : (Instr.gapError .mgmt [] 2000 0 none).wellFormed = false := by decide

theorem test_refuses_length_96 : (Instr.lengthAbove96 .mgmt [0xC3, 96] none).wellFormed = false := by decide

theorem test_no_word_spells : decodeTableWord 8 0 = none ∧ State.reset.withFetchWord 8 0 = State.reset := by decide +kernel

/-! ## Frames (R186, R187, R190) -/

/-- R186 gives this check. -/
theorem test_crc16 : crc16 [0x31, 0x32, 0x33, 0x34, 0x35, 0x36, 0x37, 0x38, 0x39] = 0x29B1#16 := by decide +kernel

/-- The characters of a LOCK POLICY frame, its check computed by hand from R186: taken at once, its eight places being free (R163). -/
theorem test_frame_lock_policy :
    gives (.frameComplete .mgmt [0x00, 0xC3, 0x00, 0x15, 0x07, 0x40, 0xFD] none) State.reset
      (fun t => t.policyLock && t.mgmt.buffer == none && t.mgmt.softErrors == 0
        && t.mgmt.tx.getLast? == some (.reply 0x07 (.plain 0x15 .accepted))) = true := by decide +kernel

/-- SEED TIME of 500,000 and 700 s, written from R187, its check computed by hand; the queue has its REQUEST TAKEN next (log 2). -/
theorem test_frame_seed_time :
    gives (.frameComplete .mgmt [0xC3, 6, 0x18, 1, 0x00, 0x07, 0xA1, 0x20, 0x02, 0xBC, 0xA4, 0x10] none)
      { State.reset with pending := [.requestTaken .mgmt] }
      (fun t => t.mgmt.buffer == some (1, .seedTime 500000 700)) = true := by decide +kernel

theorem test_bad_check_counts :
    gives (.frameComplete (.screen 0) [0xC3, 0x00, 0x03, 0x07, 0, 0] none) ready
      (fun t => (t.port 0).link.softErrors == 1 && (t.port 0).slices == [1, 0, 0, 0, 0, 0, 0, 0]
        && (t.port 0).link.buffer == none) = true := by decide +kernel

theorem test_length_97 :
    gives (.lengthAbove96 .mgmt [0xC3, 97] none) State.reset
      (fun t => t.mgmt.softErrors == 1 && t.mgmt.receiver == .hunting) = true := by decide +kernel

/-- A gap error whose closing character is a sync begins a new frame (R160). -/
theorem test_gap :
    gives (.gapError .mgmt [0xC3, 2, 0x11] 2001 0xC3 none) State.reset
      (fun t => t.mgmt.softErrors == 1 && t.mgmt.receiver == .assembling []) = true := by decide +kernel

/-- The CRC-6 of a lone first bit and a lone last bit, computed by hand from R190. -/
theorem test_crc6 :
    crc6 (true :: List.replicate 113 false) = 0b011111#6 ∧ crc6 (List.replicate 113 false ++ [true]) = 0b000011#6 := by
  decide +kernel

/-- A frame leaves its list when its last character has been sent (R164). -/
theorem test_frame_sent : gives (.frameSent .mgmt) State.reset (fun t => t.mgmt.tx.isEmpty) = true := by decide +kernel

/-- With 25 frames waiting a request stays in its buffer, and is taken as the first of them has been sent (R163, R164). -/
theorem test_take_needs_eight :
    let s := { State.reset with mgmt := { State.reset.mgmt with buffer := some (1, .lockPolicy), tx := waiting 25 } }
    gives (.requestTaken .mgmt) s (fun t => t.mgmt.buffer == some (1, .lockPolicy) && !t.policyLock) = true
      ∧ gives (.frameSent .mgmt) s
        (fun t => t.policyLock && t.mgmt.buffer == none && t.mgmt.tx.length == 25) = true := by decide +kernel

/-! ## Site time (2.8, 2.9) -/

/-- 2.8: h = 1 after a holdover from quality 1 at 40 ppm. -/
theorem test_holdover_first :
    let s := timed .holdover 100 200 State.reset
    gives (.elapsedTick []) { s with clock := { s.clock with params := { s.clock.params with r := 40 } } }
      (fun t => t.clock.acc == 40 && t.clock.uMs == some 201 && t.clock.t == some 101 && t.clock.h == some 1
        && t.clock.floor == 100) = true := by decide +kernel

/-- 2.8: h = 2,995,001 passes the ceiling, and F keeps its value. -/
theorem test_ceiling_passed :
    let s := timed .holdover 3000000 200 State.reset
    gives (.ceilingPassed []) { s with clock := { s.clock with
        params := { s.clock.params with r := 40 }, acc := 119800000, uMs := some 120000, floor := 2999880 } }
      (fun t => t.clock.time == .unassured && t.clock.acc == 119800040 && t.clock.uMs == some 120001
        && t.clock.floor == 2999880) = true := by decide +kernel

/-- 2.8: SEED TIME carries 700, which is taken as 600, above the ceiling. -/
theorem test_seed_limit :
    gives (.seedTime .mgmt 1 0 700) State.reset
      (fun t => t.clock.time == .unassured && t.clock.uMs == some 600000
        && t.mgmt.tx.getLast? == some (.reply 1 (.seedTime 600 .unassured))) = true := by decide +kernel

/-- 2.8: a ceiling of 3 is taken as 5, below U = 8. -/
theorem test_ceiling_lowered :
    let s := timed .holdover 100 7112 State.reset
    gives (.setClockParameters .mgmt 1 none (some 3) none none none none none) s
      (fun t => t.clock.params.uc == 5 && t.clock.time == .unassured) = true := by decide +kernel

theorem test_clock_status :
    gives (.clockStatus .mgmt 9) State.reset
      (fun t => t.mgmt.tx.getLast? == some (.reply 9 (.clockStatus (clockReport State.reset)))) = true := by decide +kernel

/-- 2.9: the first words of a source that is slow regress once. -/
theorem test_regression :
    let s := timed .holdover 1000000 1200 State.reset
    let s1 := reportCandidate 999990 1 false { s with clock := { s.clock with floor := 999998 } }
    s1.clock.regress = true ∧ s1.clock.prev = some 999990 ∧ s1.clock.t = some 1000000
      ∧ s1.sticky.getLsbD EventKind.referenceRegressed.code = true ∧ (reportCandidate 999991 1 false s1).mgmt = s1.mgmt := by
  decide +kernel

/-- 2.9: W = 1,000,004 after 1,000,003 confirms with a step of +1. -/
theorem test_confirmation :
    let s := timed .holdover 1000003 1201 State.reset
    let s1 := reportCandidate 1000004 1 false { s with clock := { s.clock with prev := some 1000003, floor := 1000001 } }
    s1.clock.time = .assured ∧ s1.clock.t = some 1000004 ∧ s1.clock.u = 1
      ∧ s1.clock.lastStep = some { delta := 1, excess := false, t := 1000004 } := by
  decide +kernel

/-! ## The Key Table (3.9) -/

/-- 3.9: the three conditions with U = 2 hold from 500,002, 519,998 and 521,802. -/
theorem test_window :
    let k := { film with state := .waiting }
    k.judged 500001 2 = .waiting ∧ k.judged 500002 2 = .opened ∧ k.judged 519997 2 = .opened ∧ k.judged 519998 2 = .closing
      ∧ k.judged 521801 2 = .closing ∧ k.judged 521802 2 = .expired := by decide +kernel

/-- 3.9: twelve ports, screens 0 to 3 and 13; 13 is dropped. -/
theorem test_load :
    let s := timed .assured 490000 1500 State.reset
    gives (.loadKey .mgmt 1 37 7 500000 520000 1800 2 0x200F 0 (some 0xAB)) { s with supply := { s.supply with fitted := 12 } }
      (fun t => t.mgmt.tx.getLast? == some (.reply 1 (.loadKey 37 0x000F 2 .waiting))
        && t.key 37 == some { film with state := .waiting, screens := 0x000F }) = true := by decide +kernel

/-- 3.9: the tick to 521,802 records EXPIRED. -/
theorem test_expiry :
    let s := (timed .holdover 521801 1500 State.reset).setKey 37 { film with state := .closing }
    gives (.elapsedTick []) s
      (fun t => t.key 37 == some { film with state := .expired, expiredAt := some 521802 }) = true := by decide +kernel

theorem test_revoke :
    gives (.revokeKey .mgmt 1 3) (playing 100)
      (fun t => (t.lane 0).state == .idle && (t.rel 0).outstanding == [{ serial := 41, slot := 3, countdown := some 5 }]
        && t.key 3 == some { film with state := .revoked, revokedAt := some 510000 }) = true := by decide +kernel

/-- 3.9: a purge of a held key is refused HELD with the holder set. -/
theorem test_purge_held :
    gives (.purgeKey .mgmt 1 3) (playing 100)
      (fun t => t.mgmt.tx.getLast? == some (.reply 1 (.purgeHeld 1))) = true := by decide +kernel

theorem test_purge : gives (.purgeKey .mgmt 1 3) ready (fun t => t.keys.isEmpty) = true := by decide +kernel

theorem test_key_status_empty :
    gives (.keyStatus .mgmt 1 511) ready
      (fun t => t.mgmt.tx.getLast? == some (.reply 1 (.keyStatus 511 none))) = true := by decide +kernel

/-! ## Opening checks (5.8) -/

/-- The outcome of a check on the film at T with U = 2. -/
def checked (continuation : Bool) (t d : Nat) : Option Answer :=
  (openingCheck continuation 0 3 7 d (timed .holdover t 1200 ready)).refusal

/-- The new starts of 5.8. -/
theorem test_new_starts :
    checked false 500001 3600 = some .notYet ∧ checked false 500002 3600 = none ∧ checked false 518198 3600 = none
      ∧ checked false 518199 3600 = some .runsPast ∧ checked false 519997 1801 = none
      ∧ checked false 519997 1802 = some .runsPast ∧ checked false 519998 1 = some .tooLate := by decide +kernel

/-- The continuations of 5.8. -/
theorem test_continuations :
    checked true 519998 1800 = none ∧ checked true 519998 1801 = some .runsPast ∧ checked true 521797 1 = none
      ∧ checked true 521798 1 = some .runsPast := by decide +kernel

/-! ## Lanes (chapter 4) -/

theorem test_queue_starts :
    gives (.queueReel (.screen 0) 1 3 7 3600 false 0x10) ready
      (fun t => (t.lane 0).state == .playing && (t.rel 0).holdings == [3] && (t.rel 0).nextSerial == 2
        && (t.key 3).map (fun k => k.openings) == some 1) = true := by decide +kernel

/-- 5.10: with another lane as the one holder that C allows, a new start is refused and both marks are set. -/
theorem test_oversubscribed :
    let s := ready.setKey 3 { film with c := 1 }
    gives (.queueReel (.screen 0) 1 3 7 150 false 0x10) (s.setRel 5 { s.rel 5 with holdings := [3] })
      (fun t => (t.lane 0).state == .idle && (t.lane 0).mark && (t.key 3).any (fun k => k.mark)
        && t.sticky.getLsbD EventKind.oversubscribed.code) = true := by decide +kernel

theorem test_boundary_complete :
    gives (.boundary 0) (owing (playing 1))
      (fun t => (t.lane 0).state == .idle && (t.lane 0).shows == 1 && (t.link (.screen 0)).tx ==
        [.notice (.withdraw 41 3), .notice (.showEnded 0x10 41 .complete 0 none (some 510000))]) = true := by decide +kernel

theorem test_boundary_continues :
    gives (.boundary 0) (owing (queued 3 1700 true (playing 1)))
      (fun t => (t.lane 0).active.any (fun a => a.r == 1700 && a.serial == 41)
        && (t.link (.screen 0)).tx == [.notice (.bufferFree .loaded 0x20 (some 41))]) = true := by decide +kernel

theorem test_stop :
    gives (.stopShow (.screen 0) 1) (playing 100) (fun t => (t.lane 0).state == .idle) = true := by decide +kernel

theorem test_hold :
    gives (.holdShow (.screen 0) 1) (playing 100)
      (fun t => (t.lane 0).state == .held && (t.lane 0).holdLimit == some 1200) = true := by decide +kernel

/-- A hold limit of 0 ends the show in the same event (R97). -/
theorem test_hold_at_zero :
    let s := playing 100
    gives (.holdShow (.screen 0) 1) (s.setLane 0 { s.lane 0 with l := 0 }) (fun t => (t.lane 0).state == .idle) = true := by
  decide +kernel

theorem test_resume :
    gives (.resumeShow (.screen 0) 1) (held true false) (fun t => (t.lane 0).state == .playing) = true := by decide +kernel

/-- Resuming past the end bound ends the show RUNS PAST (R93, R126). -/
theorem test_resume_runs_past :
    gives (.resumeShow (.screen 0) 1) (timed .assured 521699 2000 (held true false))
      (fun t => (t.lane 0).state == .idle && (t.link (.screen 0)).tx.any (fun f =>
        f == .notice (.showEnded 0x10 41 (.refused .runsPast) 100 none (some 521699)))) = true := by decide +kernel

theorem test_hold_limit :
    gives (.holdLimit 0) (owing (held true false))
      (fun t => (t.link (.screen 0)).tx ==
        [.notice (.withdraw 41 3), .notice (.showEnded 0x10 41 .holdLimit 100 none (some 510000))]) = true := by decide +kernel

theorem test_site_hold :
    let s := playing 100
    gives (.siteHoldAssertion 200) { s with supply := { s.supply with siteLine := true } }
      (fun t => (t.lane 0).state == .held && (t.lane 0).siteHold && t.siteHold) = true := by decide +kernel

/-- A level held for 199 ms is not taken (R94). -/
theorem test_site_hold_short :
    let s := playing 100
    gives (.siteHoldAssertion 199) { s with supply := { s.supply with siteLine := true } }
      (fun t => (t.lane 0).state == .playing && !t.siteHold) = true := by decide +kernel

theorem test_site_release :
    gives (.siteHoldRelease 200) { held false true with siteHold := true }
      (fun t => (t.lane 0).state == .playing && !t.siteHold) = true := by decide +kernel

theorem test_line_change :
    gives (.siteHoldLineChange true) { State.reset with siteStableMs := 150 }
      (fun t => t.siteStableMs == 0 && t.supply.siteLine) = true := by decide +kernel

theorem test_lane_parameters :
    gives (.setLaneParameters .mgmt 1 0 (some 1) (some 3601) (some 0)) ready
      (fun t => (t.lane 0).wt == 2 && (t.lane 0).l == 3600 && (t.lane 0).dt == 1) = true := by decide +kernel

theorem test_lane_status_other_lane :
    gives (.laneStatus (.screen 0) 1 1) ready
      (fun t => (t.link (.screen 0)).tx == [.reply 1 (.plain 0x08 .notPermitted)]) = true := by decide +kernel

/-! ## Grants and withdrawals (6.9 to 6.11) -/

/-- R130: 65,535 is followed by 1, and a serial still outstanding is passed over. -/
theorem test_serial_wraps :
    nextSerialAfter 65535 = 1
      ∧ ({ Release.clear with nextSerial := 65535, outstanding :=
            [⟨65535, 3, none⟩, ⟨1, 3, none⟩, ⟨2, 3, none⟩, ⟨3, 3, none⟩] } : Release).takenSerial = 4 := by decide +kernel

/-- 6.9: the change of grant places WITHDRAW, RELEASE, BUFFER FREE, and the entry starts at Wt. -/
theorem test_change_of_grant :
    gives (.boundary 0) (owing (queued 4 5400 false ((playing 1).setKey 4 film)))
      (fun t => (t.rel 0).outstanding == [{ serial := 41, slot := 3, countdown := some 5 }] && (t.rel 0).holdings == [3, 4]
        && (t.link (.screen 0)).tx == [.notice (.withdraw 41 3),
          .notice (.release 42 4 7 0xAB 0x51 0x20 5400 521800), .notice (.bufferFree .loaded 0x20 (some 42))]) = true := by
  decide +kernel

/-- 6.9: an entry that times out costs the lane its show, and counts one. -/
theorem test_withdrawal_timeout :
    gives (.withdrawalTimeout 0) (entries 1 (some 0) (playing 100))
      (fun t => (t.lane 0).state == .quarantine && (t.lane 0).timeouts == 1
        && (t.rel 0).outstanding == [{ serial := 1, slot := 3, countdown := none }]) = true := by decide +kernel

/-- 6.9: in QUARANTINE an ERASED removes its entry and leaves the holdings. -/
theorem test_erased_in_quarantine :
    gives (.erased (.screen 0) 1 1) (entries 1 none (laneIn .quarantine))
      (fun t => (t.rel 0).outstanding.isEmpty && (t.rel 0).holdings == [3]) = true := by decide +kernel

/-- 6.9: ERASED ALL in QUARANTINE is refused. -/
theorem test_erased_all_refused :
    gives (.erasedAll (.screen 0) 1) (laneIn .quarantine)
      (fun t => (t.lane 0).state == .quarantine && (t.rel 0).holdings == [3]) = true := by decide +kernel

/-- 6.9: RESTORE LANE places CLEAR and starts the countdown at Wt. -/
theorem test_restore :
    gives (.restoreLane .mgmt 1 0) (laneIn .quarantine)
      (fun t => (t.lane 0).state == .clearing && (t.rel 0).clearing == some 5
        && (t.link (.screen 0)).tx == [.notice (.clear 5 [3] [])]) = true := by decide +kernel

/-- 6.9: ERASED ALL in CLEARING puts the lane in IDLE with nothing held. -/
theorem test_clearing_completes :
    gives (.erasedAll (.screen 0) 1) (laneIn .clearing)
      (fun t => (t.lane 0).state == .idle && (t.rel 0).holdings.isEmpty
        && t.sticky.getLsbD EventKind.laneCleared.code) = true := by decide +kernel

/-- 6.9: the clearing lapses, and the counter of withdrawals stays. -/
theorem test_clearing_timeout :
    let s := laneIn .clearing
    gives (.clearingTimeout 0) (s.setRel 0 { s.rel 0 with clearing := some 0 })
      (fun t => (t.lane 0).state == .quarantine && (t.lane 0).timeouts == 0 && (t.rel 0).clearing == none) = true := by
  decide +kernel

/-- 6.9: VOID HOLDINGS is refused where the port is bound as SCREEN. -/
theorem test_void_refused :
    gives (.voidHoldings .mgmt 1 0) (laneIn .quarantine)
      (fun t => (t.lane 0).state == .quarantine && (t.rel 0).holdings == [3]) = true := by decide +kernel

theorem test_void :
    gives (.voidHoldings .mgmt 1 0) ((laneIn .quarantine).setPortState 0 .unbound)
      (fun t => (t.lane 0).state == .offline && (t.rel 0).holdings.isEmpty) = true := by decide +kernel

/-- 6.10: a boundary over a full list makes neither the withdrawal nor the release. -/
theorem test_full_list :
    gives (.boundary 0) (owing (queued 4 5400 false ((entries 4 (some 9) (playing 1)).setKey 4 film)))
      (fun t => (t.lane 0).state == .quarantine && (t.rel 0).holdings == [3] && (t.rel 0).outstanding.length == 4
        && (t.link (.screen 0)).tx ==
          [.notice (.showEnded 0x10 41 .quarantine 0 (some 0x20) (some 510000))]) = true := by decide +kernel

/-- 6.11: after a reset the holdings stand, the list is empty, the next serial is 1 and the mark is set. -/
theorem test_reset_keeps_holdings :
    gives .resetAssert (entries 1 (some 3) (playing 100))
      (fun t => (t.lane 0).state == .offline && t.rel 0 ==
        { nextSerial := 1, holdings := [3], outstanding := [], clearRequired := true, clearing := none }) = true := by
  decide +kernel

/-! ## Ports (7.8, 7.9) -/

/-- Screen port 2 under the entry of 7.8, in a port state. -/
def announcing (st : PortState) : State :=
  ((bind 2 State.reset).setPortState 2 st).setLane 2 Lane.afterReset

/-- 7.8: the ANNOUNCE at 8.1, three ticks after the first, starts the count afresh. -/
theorem test_announce_late :
    gives (.announce (.screen 2) 1 0x51) (announcing (.candidate 0x51 1 3))
      (fun t => (t.port 2).state == .candidate 0x51 1 0) = true := by decide +kernel

/-- 7.8: the third within the spacing binds, and the marked lane is cleared first. -/
theorem test_announce_binds :
    let s := announcing (.candidate 0x51 2 2)
    gives (.announce (.screen 2) 1 0x51) (s.setRel 2 { s.rel 2 with holdings := [12], clearRequired := true })
      (fun t => (t.port 2).state == .bound 0x51 && (t.lane 2).state == .clearing && (t.link (.screen 2)).tx ==
        [.notice (.clear 5 [12] []), .reply 1 (.announce { state := 2, role := 1, count := 0 })]) = true := by decide +kernel

/-- 7.8: SET PORT 2 (ANY, SCREEN, both classes). -/
theorem test_set_port :
    gives (.setPort .mgmt 1 2 none 1 3) State.reset
      (fun t => (t.port 2).entry == { identity := none, role := .screen, showControl := true, queries := true }) = true := by
  decide +kernel

theorem test_locked :
    gives (.setPort .mgmt 1 2 none 1 3) { State.reset with policyLock := true }
      (fun t => t.ports == State.reset.ports) = true := by decide +kernel

theorem test_lock_policy : gives (.lockPolicy .mgmt 1) State.reset (fun t => t.policyLock) = true := by decide +kernel

/-- 7.9: with a sum of 5 and Dt 6 the next error degrades the port. -/
theorem test_degrade :
    let s := ready.setPort 0 { ready.port 0 with slices := [3, 2, 0, 0, 0, 0, 0, 0], dtInForce := 6 }
    (frameError (.screen 0) s).sticky.getLsbD EventKind.portDegraded.code = true
      ∧ ((frameError (.screen 0) s).port 0).degraded = true := by decide +kernel

/-- 7.9: a sum of 4 keeps the flag with Dt 6, and a sum of 6 clears it with Dt 12. -/
theorem test_recover :
    let s := ready.setPort 0 { ready.port 0 with slices := [4, 0, 0, 0, 0, 0, 0, 2], dtInForce := 6, degraded := true }
    let t := ready.setPort 0 { ready.port 0 with slices := [0, 4, 2, 0, 0, 0, 0, 0], dtInForce := 6, degraded := true }
    ((portTick 0 (s.setLane 0 { s.lane 0 with dt := 6 })).port 0).degraded = true
      ∧ ((portTick 0 (t.setLane 0 { t.lane 0 with dt := 12 })).port 0).degraded = false := by decide +kernel

/-! ## Events (8.6) -/

/-- 8.6: a notice that finds the list full is lost, and both flags are set. -/
theorem test_notice_lost :
    let s := (({ State.reset with mgmt := { State.reset.mgmt with tx := waiting 32 } }).raise (.laneQuarantined 4 .listFull [] []))
    s.mgmt.noticesLost = 1 ∧ s.mgmt.tx.length = 32 ∧ s.sticky.getLsbD EventKind.laneQuarantined.code = true
      ∧ s.sticky.getLsbD EventKind.noticeLost.code = true := by decide +kernel

theorem test_mask : gives (.setEventMask .mgmt 1 0x1FFFF) State.reset (fun t => t.mask == BitVec.allOnes 17) = true := by
  decide +kernel

theorem test_mask_refused :
    gives (.setEventMask .mgmt 1 0x020000) State.reset
      (fun t => t.mgmt.tx.getLast? == some (.reply 1 (.plain 0x1E .badField))) = true := by decide +kernel

theorem test_status_summary :
    gives (.statusSummary .mgmt 1) State.reset (fun t => t.mgmt.tx.length == 2 && t.sticky == State.reset.sticky) = true := by
  decide +kernel

theorem test_clear_sticky :
    gives (.clearSticky .mgmt 1 0x010000 0 []) State.reset (fun t => t.sticky == 0#17) = true := by decide +kernel

theorem test_clear_counters :
    gives (.clearCounters .mgmt 1) { State.reset with mgmt := { State.reset.mgmt with softErrors := 65535 } }
      (fun t => t.mgmt.softErrors == 0) = true := by decide +kernel

/-! ## Supplies (chapter 9) -/

/-- R185: the strap table. -/
theorem test_straps :
    fittedCount false false = 4 ∧ fittedCount false true = 8 ∧ fittedCount true false = 12 ∧ fittedCount true true = 16 := by
  decide

theorem test_main_fails :
    gives .mainPowerFail (playing 100)
      (fun t => lamp t == .off && t.clock.time == .holdover && (t.rel 0).holdings == [3] && t.keys.length == 1) = true := by
  decide +kernel

/-- R23, R181: in ASSURED, with the oscillator past its second and the start mark not come, the failure is followed by the tick at the
next cycle. -/
theorem test_main_fails_before_the_mark :
    let s : State := { ready with clock := { ready.clock with osc := 32768 } }
    gives .mainPowerFail s (fun t => t.clock.t == some 510000 &&
      match step t with
      | .next u => u.clock.t == some 510001 && u.clock.h == some 1 && u.clock.osc == 1
      | _ => false) = true := by decide +kernel

/-- R23, R181: a start mark that is due when main fails is the tick. -/
theorem test_main_fails_at_the_mark :
    gives .mainPowerFail (aligned 0 true ready)
      (fun t => t.clock.t == some 510001 && t.clock.osc == 0 && t.clock.time == .holdover && t.clock.h == some 0) = true := by
  decide +kernel

theorem test_backup_loss :
    gives (.mainPowerUp true true) { State.reset with supply := { State.reset.supply with mainOn := false, markerGood := false } }
      (fun t => t == State.reset) = true := by decide +kernel

theorem test_marker_bad :
    gives .validityMarkerBad { State.reset with supply := { State.reset.supply with mainOn := false } }
      (fun t => !t.supply.markerGood) = true := by decide +kernel

theorem test_reset_release :
    gives (.resetRelease false true) { State.reset with supply := { State.reset.supply with resetPin := true, inReset := true } }
      (fun t => t.running && t.supply.fitted == 8) = true := by decide +kernel

/-! ## The reference line (chapter 1) -/

/-- A mid-period transition makes the bit 1 (R1). -/
theorem test_bit_one :
    gives .bitPeriodEnd { State.reset with framer := { State.reset.framer with startSeen := true, midSeen := true } }
      (fun t => t.framer.history.take 2 == [.one, .invalid]) = true := by decide +kernel

theorem test_mid_transition :
    gives (.referenceLineTransition 3906250) State.reset (fun t => t.framer.midSeen && !t.framer.startSeen) = true := by
  decide +kernel

theorem test_silence :
    gives .silenceEntry { ready with framer := { ready.framer with missingRun := 32, state := .aligned } }
      (fun t => t.framer.state == .silent && t.clock.time == .holdover && t.framer.counters.silences == 1) = true := by
  decide +kernel

theorem test_clean_window :
    gives .cleanWindow { ready with framer := { ready.framer with state := .silent, clean := 64 } }
      (fun t => t.framer.state == .search) = true := by decide +kernel

theorem test_candidate :
    gives .candidatePosition (framed .search true ready) (fun t => t.framer.state == .confirm) = true := by decide +kernel

theorem test_mimic :
    gives .mimic (confirming 8 false true none ready)
      (fun t => t.framer.state == .confirm && t.framer.counters.mimics == 1) = true := by decide +kernel

/-- R9: the position is (p + 72) mod 128; a candidate at line phase 56 is the overhead bit of period 56. -/
theorem test_alignment :
    gives .confirmTest (confirming 128 false true none ready)
      (fun t => t.framer.state == .aligned && t.framer.lastPosition == some 0) = true := by decide +kernel

/-- The check bits are carried in the superframe after the one they cover; all are 0 over 114 zeros (R190). -/
theorem test_strict :
    gives (.strictConfirmTest false) (confirming 304 true false (some (covered 0 0)) ready)
      (fun t => t.framer.state == .aligned && t.framer.lastQuality == some 0 && t.clock.prev == some 0) = true := by decide +kernel

theorem test_start_mark :
    gives (.superframeStart []) (aligned 0 false ready) (fun t => t.clock.t == some 510001 && t.clock.floor == 509999) = true := by
  decide +kernel

/-- The third errored mark of eight loses alignment with K = 3 (R11). -/
theorem test_alignment_lost :
    let s := aligned 57 false ready
    gives .alignmentTest { s with framer := { s.framer with lossWindow := [true, false, true] } }
      (fun t => t.framer.state == .search && t.framer.counters.losses == 1 && t.clock.time == .holdover) = true := by decide +kernel

/-- 2.9: the third miss in ASSURED enters HOLDOVER. -/
theorem test_third_miss :
    let s := aligned 105 false ready
    gives (.superframeEnd false) { s with clock := { s.clock with miss := 2 } }
      (fun t => t.clock.time == .holdover && t.clock.miss == 0) = true := by decide +kernel

theorem test_reframe :
    gives (.reframe .mgmt 1) (aligned 5 false ready)
      (fun t => t.framer.state == .search && t.mgmt.tx.getLast? == some (.reply 1 (.reframe .search))) = true := by decide +kernel

theorem test_reference_failed :
    gives .referenceFailed { State.reset with framer := { State.reset.framer with tickOwed := true, failTimer := 9 } }
      (fun t => t.framer.alarm && t.sticky.getLsbD EventKind.referenceFailed.code) = true := by decide +kernel

/-! ## Witnesses: a state and operands that meet the hypotheses of each statement, clause by clause -/

theorem witness_StepRunsFrontCommand : ({ State.reset with pending := [.mainPowerFail] } : State).pending = .mainPowerFail :: [] := by
  decide +kernel

theorem witness_IdleCyclesAndElapsedTicks :
    let counted (osc : Nat) : State := { State.reset with clock := { State.reset.clock with osc := osc } }
    let h := timed .holdover 100 120000 State.reset
    let u := timed .unassured 100 3600000 State.reset
    ((counted 32766).pending = [] ∧ (counted 32766).retained = true ∧ (counted 32766).clock.time ≠ .assured
        ∧ (counted 32766).clock.osc + 1 < 32768)
      ∧ ((counted 32767).pending = [] ∧ (counted 32767).retained = true ∧ (counted 32767).clock.time ≠ .assured
        ∧ 32768 ≤ (counted 32767).clock.osc + 1)
      ∧ (ready.pending = [] ∧ ready.retained = true ∧ ready.clock.time = .assured)
      ∧ (State.reset.retained = true ∧ State.reset.clock.time = .noTime)
      ∧ (h.retained = true ∧ h.clock.time = .holdover ∧ h.clock.t = some 100 ∧ h.clock.uMs = some 120000 ∧ h.clock.h = some 0)
      ∧ (u.retained = true ∧ u.clock.time = .unassured ∧ u.clock.t = some 100 ∧ u.clock.uMs = some 3600000 ∧ u.clock.h = some 0)
      ∧ (h.clock.params.uc < (min 3600000 (h.clock.u0 + (h.clock.acc + h.clock.params.r + 999) / 1000) + 999) / 1000) := by
  decide +kernel

theorem witness_StepKeepsKeyTable : ready.tableLawful ∧ ∃ t, step ready = .next t := ⟨by decide +kernel, _, rfl⟩

theorem witness_StepKeepsTransmitLists :
    let s : State := { playing 1 with mgmt := { State.reset.mgmt with tx := waiting 32 } }
    s.listsLawful ∧ ∃ t, step s = .next t := ⟨by decide +kernel, _, rfl⟩

theorem witness_StepKeepsLanes : (queued 3 100 true (playing 1)).lanesLawful ∧ ∃ t, step (queued 3 100 true (playing 1)) = .next t :=
  ⟨by decide +kernel, _, rfl⟩

theorem witness_StepKeepsConcurrencyLimit :
    let s := (playing 1).setKey 3 { film with c := 1 }
    s.tableLawful ∧ s.holdersLawful ∧ ∃ t, step s = .next t := ⟨by decide +kernel, by decide +kernel, _, rfl⟩

theorem witness_StepKeepsClock :
    let full : Framer := { ready.framer with
      lossWindow := List.replicate 8 false, checkEnds := 16, checkFails := 16, clean := 64, failTimer := 120, linePhase := 127
      lastPosition := some 127 }
    ClockLawful ready.clock ∧ ClockLawful (timed .holdover 100 120000 ready).clock ∧ ClockLawful (timed .unassured 100 120001 ready).clock
      ∧ FramerLawful ready.framer ∧ FramerLawful full ∧ ∃ t, step ready = .next t :=
  ⟨by decide +kernel, by decide +kernel, by decide +kernel, by decide +kernel, by decide +kernel, _, rfl⟩

theorem witness_FloorNeverDecreases : ready.supply.markerGood = true ∧ ∃ t, exec .mainPowerFail ready = .next t :=
  ⟨by decide +kernel, _, rfl⟩

theorem witness_EvaluationMovesKeysForward :
    let late := timed .assured 521802 2000 (playing 100)
    let last := timed .assured 521801 2000 (playing 100)
    let s := late.setLink (.screen 0) { late.link (.screen 0) with tx := waiting 30 }
    ready.key 3 = some film ∧ (ready.setKey 3 { film with state := .expired }).key 3 = some { film with state := .expired }
      ∧ (timed .unassured 521802 2000 ready).clock.usable = false ∧ ready.clock.usable = true ∧ ready.key 4 = none
      ∧ (s.running = true ∧ (s.lane 0).state.running = true
        ∧ (s.lane 0).active = some { slot := 3, label := 7, tag := 0x10, r := 100, serial := 41 } ∧ s.expiresAt s.clock 3
        ∧ (s.rel 0).outstanding.length < 4 ∧ s.isFitted 0 = true ∧ (s.port 0).state.isBound = true
        ∧ (s.link (.screen 0)).tx.length + 2 ≤ 32 ∧ s.kept = none)
      ∧ ¬ last.expiresAt last.clock 3 := by
  decide +kernel

theorem witness_ScreenRequestsLeavePolicyAndOtherLanes :
    (1 : LaneIx) ≠ 0 ∧ ∃ t, exec (onPort (.screen 0) 1 .stopShow) (playing 100) = .next t := ⟨by decide, _, rfl⟩

theorem witness_ScreenRequestsLeavePolicyAndOtherLanes_admission :
    let under (role : Role) (show' queries : Bool) : State := ready.setPort 0 { ready.port 0 with
      entry := { identity := none, role := role, showControl := show', queries := queries } }
    let new := ready.setPortState 0 (.candidate 0x51 2 0)
    (ready.ready (.screen 0) ∧ 0x10 ≤ (Request.loadKey 3 7 0 0 0 1 0 0 none).kind.toNat)
      ∧ (new.ready (.screen 0) ∧ (∀ identity, (new.port 0).state ≠ .bound identity) ∧ 2 ≤ (Request.queueReel 3 7 1 false 0).kind.toNat
        ∧ Request.clockStatus.kind.toNat ≤ 9)
      ∧ ((under .screen false true).ready (.screen 0) ∧ ((under .screen false true).port 0).state = .bound 0x51
        ∧ ((under .screen false true).port 0).entry.showControl = false ∧ Request.stopShow.kind.toNat = 3)
      ∧ (((under .observer true true).port 0).entry.role ≠ .screen ∧ ((under .observer true true).port 0).state = .bound 0x51
        ∧ (under .observer true true).ready (.screen 0) ∧ Request.erasedAll.kind.toNat = 7)
      ∧ (((under .screen true false).port 0).entry.queries = false ∧ (under .screen true false).ready (.screen 0)
        ∧ ((under .screen true false).port 0).state = .bound 0x51 ∧ Request.clockStatus.kind.toNat = 9)
      ∧ (ready.ready .mgmt ∧ Request.erasedAll.kind.toNat ≤ 7) := by
  refine ⟨by decide +kernel, ⟨by decide +kernel, ?_, by decide +kernel, by decide +kernel⟩, by decide +kernel, by decide +kernel,
    by decide +kernel, by decide +kernel⟩
  intro identity h
  exact absurd h (by simp [State.setPortState, port_setPort_same])

theorem witness_UnfittedPortIsDeaf :
    ({ State.reset with supply := { State.reset.supply with fitted := 12 } } : State).isFitted 12 = false := by decide +kernel

theorem witness_RequestBodiesRoundTrip : (Request.clearSticky 0x1FFFF 0xFFFF (List.replicate 45 511)).wellFormed = true := by
  decide +kernel

theorem witness_FrameCompleteBuffersTheRequest :
    let s (count : Nat) := ready.setLink (.screen 0) { ready.link (.screen 0) with tx := waiting count }
    let next : State := { ready with pending := [.requestTaken (.screen 0)] }
    (Request.lockPolicy.wellFormed = true ∧ (s 25).listening (.screen 0) = true ∧ ((s 25).link (.screen 0)).buffer = none
        ∧ ((s 25).link (.screen 0)).receiver = .hunting ∧ 32 < ((s 25).link (.screen 0)).tx.length + 8)
      ∧ ((s 24).listening (.screen 0) = true ∧ ((s 24).link (.screen 0)).buffer = none
        ∧ ((s 24).link (.screen 0)).tx.length + 8 ≤ 32 ∧ (s 24).pending.head? ≠ some (.requestTaken (.screen 0)))
      ∧ next.pending.head? = some (.requestTaken (.screen 0)) := by decide +kernel

theorem witness_FrameErrorsAreCountedOnce :
    let gap := ready.setLink (.screen 0) { ready.link (.screen 0) with receiver := .assembling [] }
    let full := ready.setLink (.screen 0) { ready.link (.screen 0) with buffer := some (1, .stopShow), tx := waiting 25 }
    (ready.listening (.screen 0) = true ∧ (ready.link (.screen 0)).buffer = none ∧ (ready.link (.screen 0)).receiver = .hunting
        ∧ (0 : Byte).toNat ≤ 96 ∧ ([] : List Byte).length = (0 : Byte).toNat
        ∧ (0x40 : Byte) ++ (0xFC : Byte) ≠ crc16 (0x00 :: 0x15 :: 0x07 :: []))
      ∧ (full.listening (.screen 0) = true ∧ (full.link (.screen 0)).buffer ≠ none ∧ (full.link (.screen 0)).receiver = .hunting
        ∧ 32 < (full.link (.screen 0)).tx.length + 8)
      ∧ (96 < (97 : Byte).toNat ∧ (gap.link (.screen 0)).receiver = .assembling [] ∧ 0xC3 ∉ [(0x00 : Byte), 0xFF])
      ∧ (gap.listening (.screen 0) = true ∧ 2000 < 2001 ∧ [(0x15 : Byte), 7, 0].length < (0 : Byte).toNat + 4) := by
  decide +kernel

/-- A kind that is no request kind, and a body length that its kind does not permit: no request of that kind has that length. -/
theorem witness_FrameErrorsAreCountedOnce_kinds :
    (∀ r : Request, r.wellFormed = true → r.kind = 0x0A → r.body.length ≠ (0 : Byte).toNat)
      ∧ (∀ r : Request, r.wellFormed = true → r.kind = 0x15 → r.body.length ≠ (1 : Byte).toNat) := by
  constructor <;> intro r <;> cases r <;> simp [Request.kind, Request.body]

/-- A body of 96 bytes: of two checks one is wrong, whatever the right one is. -/
theorem witness_FrameErrorsAreCountedOnce_longest :
    (96 : Byte).toNat ≤ 96 ∧ (List.replicate 96 (0 : Byte)).length = (96 : Byte).toNat
      ∧ ∃ lo : Byte, lo ≤ 1 ∧ (0 : Byte) ++ lo ≠ crc16 (96 :: 0x15 :: 0x07 :: List.replicate 96 0) := by
  refine ⟨by decide, by decide, ?_⟩
  generalize crc16 (96 :: 0x15 :: 0x07 :: List.replicate 96 0) = check
  by_cases h : (0 : Byte) ++ (0 : Byte) = check
  · exact ⟨1, by decide, by rw [← h]; decide⟩
  · exact ⟨0, by decide, h⟩

theorem witness_TakenRequestsReplyLast :
    let s (count : Nat) := ready.setLink .mgmt { ready.link .mgmt with buffer := some (1, .lockPolicy), tx := waiting count }
    let next : State := { s 25 with pending := [.requestTaken .mgmt] }
    ((s 24).listening .mgmt = true ∧ ((s 24).link .mgmt).buffer = some (1, .lockPolicy) ∧ ((s 24).link .mgmt).tx.length + 8 ≤ 32)
      ∧ ((s 25).listening .mgmt = true ∧ ((s 25).link .mgmt).buffer = some (1, .lockPolicy) ∧ 32 < ((s 25).link .mgmt).tx.length + 8)
      ∧ ready.ready .mgmt
      ∧ ((s 25).listening .mgmt = true ∧ ((s 25).link .mgmt).tx = .notice (.withdraw 1 3) :: waiting 24
        ∧ (waiting 24).length + 8 ≤ 32 ∧ (s 25).pending.head? ≠ some (.requestTaken .mgmt))
      ∧ (((s 26).link .mgmt).tx = .notice (.withdraw 1 3) :: waiting 25 ∧ 32 < (waiting 25).length + 8)
      ∧ next.pending.head? = some (.requestTaken .mgmt) ∧ (ready.link .mgmt).buffer = none := by decide +kernel

theorem witness_AnnounceCountsAndBinds :
    let a (st : PortState) := announcing st
    ((a .unbound).ready (.screen 2) ∧ ((a .unbound).port 2).entry.role = .screen ∧ ((a .unbound).port 2).entry.matches 0x51 = true
        ∧ ((a .unbound).port 2).state = .unbound)
      ∧ (((a (.candidate 0x52 2 0)).port 2).state = .candidate 0x52 2 0 ∧ (0x52 : Identity) ≠ 0x51)
      ∧ (((a (.candidate 0x51 2 3)).port 2).state = .candidate 0x51 2 3 ∧ 2 < 3)
      ∧ ((a (.candidate 0x51 1 2)).ready (.screen 2) ∧ ((a (.candidate 0x51 1 2)).port 2).state = .candidate 0x51 1 2)
      ∧ ((a (.candidate 0x51 2 2)).ready (.screen 2) ∧ ((a (.candidate 0x51 2 2)).port 2).entry.role = .screen
        ∧ ((a (.candidate 0x51 2 2)).port 2).entry.matches 0x51 = true
        ∧ ((a (.candidate 0x51 2 2)).port 2).state = .candidate 0x51 2 2 ∧ ((a (.candidate 0x51 2 2)).lane 2).state = .offline
        ∧ ((a (.candidate 0x51 2 2)).rel 2).clearRequired = false)
      ∧ ((a (.candidate 0x51 2 2)).setRel 2 { Release.clear with clearRequired := true }).ready (.screen 2) := by decide +kernel

theorem witness_IdentityChangeCostsTheLane :
    (playing 100).ready (.screen 0) ∧ ((playing 100).port 0).entry.role = .screen ∧ ((playing 100).port 0).state = .bound 0x51
      ∧ (0x51 : Identity) ≠ 0x52 ∧ ((playing 100).lane 0).state ≠ .quarantine := by decide +kernel

theorem witness_SetPortWritesUntilLocked :
    let s := State.reset
    let locked := { s with policyLock := true }
    let known := s.setPortState 15 (.candidate 0x51 2 3)
    let observer := (ready.setPort 0 { ready.port 0 with entry := { (ready.port 0).entry with role := .observer } }).setLane 0
      { ready.lane 0 with state := .offline }
    let marked := observer.setRel 0 { observer.rel 0 with holdings := [3], clearRequired := true }
    let entry (identity : Option Identity) : Binding := { identity := identity, role := .screen, showControl := true, queries := true }
    (s.ready .mgmt ∧ laneOf 15 = some 15 ∧ s.isFitted 15 = true ∧ roleOf 2 = some .observer ∧ (3 : Byte).toNat < 4
        ∧ s.policyLock = false ∧ (s.lane 15).state.running = false ∧ (s.port 15).state = .unbound)
      ∧ ((playing 100).ready .mgmt ∧ ((playing 100).lane 0).state.running = true ∧ (playing 100).policyLock = false)
      ∧ ((known.lane 15).state.running = false ∧ (known.port 15).state = .candidate 0x51 2 3
        ∧ (entry none).matches 0x51 = true ∧ (entry (some 0x52)).matches 0x51 = false)
      ∧ (ready.ready .mgmt ∧ (ready.lane 0).state.running = false ∧ (ready.port 0).state = .bound 0x51
        ∧ roleOf 1 = some (ready.port 0).entry.role ∧ roleOf 0 = some .disabled)
      ∧ (observer.ready .mgmt ∧ (observer.port 0).state = .bound 0x51 ∧ (observer.port 0).entry.role = .observer
        ∧ (observer.lane 0).state = .offline ∧ (observer.rel 0).clearRequired = false)
      ∧ ((marked.rel 0).clearRequired = true ∧ (marked.link (.screen 0)).tx.length < 32)
      ∧ ((observer.setLane 0 { observer.lane 0 with state := .quarantine }).lane 0).state ≠ .offline
      ∧ (15 < (16 : Byte).toNat ∧ roleOf 3 = none ∧ 4 ≤ (4 : Byte).toNat)
      ∧ (locked.ready .mgmt ∧ locked.policyLock = true ∧ laneOf 15 = some 15 ∧ locked.isFitted 15 = true
        ∧ (roleOf 2).isSome = true ∧ (3 : Byte).toNat < 4) := by decide +kernel

theorem witness_SetEventMaskWritesEnables :
    State.reset.ready .mgmt ∧ (0x1FFFF : KindMap).toNat < 2 ^ 17 ∧ 2 ^ 17 ≤ (0x020000 : KindMap).toNat := by decide +kernel

theorem witness_QueriesOnlyReply :
    ready.ready .mgmt ∧ laneOf 15 = some 15 ∧ (3 : BitVec 16).toNat < 512 ∧ ready.key (3 : BitVec 16).toNat = some film
      ∧ 512 ≤ (512 : BitVec 16).toNat := by decide +kernel

theorem witness_ClearStickyClearsWhatItNames :
    ready.ready .mgmt ∧ (0x1FFFF : KindMap).toNat < 2 ^ 17 ∧ (∀ slot ∈ [(3 : BitVec 16), 511], slot.toNat < 512)
      ∧ 2 ^ 17 ≤ (0x020000 : KindMap).toNat ∧ ((512 : BitVec 16) ∈ [(512 : BitVec 16)] ∧ 512 ≤ (512 : BitVec 16).toNat) :=
  ⟨by decide +kernel, by decide, by simp, by decide, by decide⟩

theorem witness_ClearCountersZeroesCounters : State.reset.ready .mgmt := by decide +kernel

theorem witness_SeedTimeSetsTheClock :
    (State.reset.ready .mgmt ∧ State.reset.clock.time = .noTime) ∧ (ready.ready .mgmt ∧ ready.clock.time ≠ .noTime) := by
  decide +kernel

theorem witness_SetClockParametersClamps : (timed .holdover 100 120000 State.reset).ready .mgmt := by decide +kernel

theorem witness_ElapsedTickReachesItsReceivers :
    let p := timed .holdover 510000 2000 (playing 2)
    let h := timed .holdover 510000 2000 ((held true false).setLane 0 { (held true false).lane 0 with holdTimer := some 4 })
    let i := timed .unassured 510000 200000 (entries 1 (some 2) ready)
    let c := (laneIn .clearing).setRel 0 { (laneIn .clearing).rel 0 with clearing := some 2 }
    let a := aligned 0 false (playing 2)
    (p.running = true ∧ p.clock.time ≠ .assured ∧ p.framer.tickOwed = false ∧ p.isFitted 15 = true ∧ (p.lane 0).tickOwed = false
        ∧ (∀ e ∈ (p.rel 0).outstanding, runsOn e.countdown) ∧ (p.lane 0).state = .playing
        ∧ (p.lane 0).active = some { slot := 3, label := 7, tag := 0x10, r := 2, serial := 41 }
        ∧ ∃ t, exec (.elapsedTick []) p = .next t ∧ ¬ p.expiresAt t.clock 3)
      ∧ (h.running = true ∧ h.clock.time ≠ .assured ∧ (h.lane 0).tickOwed = false ∧ (∀ e ∈ (h.rel 0).outstanding, runsOn e.countdown)
        ∧ (h.lane 0).state = .held ∧ (h.lane 0).active.isSome = true ∧ (h.lane 0).holdTimer = some 4
        ∧ (h.lane 0).holdLimit = some 6 ∧ 4 + 1 < 6)
      ∧ (i.running = true ∧ i.clock.time ≠ .assured ∧ (i.lane 0).tickOwed = false ∧ (i.lane 0).state = .idle
        ∧ (i.rel 0).outstanding = [⟨1, 3, some 2⟩] ∧ ∀ e ∈ (i.rel 0).outstanding, runsOn e.countdown)
      ∧ ((c.lane 0).state = .clearing ∧ runsOn (c.rel 0).clearing ∧ (State.reset.lane 1).state = .offline)
      ∧ (a.running = true ∧ a.clock.time = .assured ∧ a.framer.state = .aligned ∧ a.framer.fresh = true
        ∧ a.framer.superframePeriod = 0) :=
  ⟨⟨by decide +kernel, by decide +kernel, by decide +kernel, by decide +kernel, by decide +kernel, by decide +kernel,
      by decide +kernel, by decide +kernel, _, rfl, by decide +kernel⟩,
    by decide +kernel, by decide +kernel, by decide +kernel, by decide +kernel⟩

theorem witness_LoadKeyWritesOrRefuses :
    let s := ready
    (s.ready .mgmt ∧ (511 : BitVec 16).toNat < 512 ∧ s.key (511 : BitVec 16).toNat = none ∧ (∀ e ∈ s.keys, e.2.label ≠ 8)
        ∧ (1 : BitVec 32).toNat < (510000 : BitVec 32).toNat ∧ (7200 : BitVec 16).toNat ≤ 7200 ∧ (1 : Byte) ≠ 0
        ∧ (1 : ScreenMap) &&& fittedMap s.supply.fitted ≠ 0#16
        ∧ s.clock.now < (510000 : BitVec 32).toNat + (7200 : BitVec 16).toNat + s.clock.u)
      ∧ 512 ≤ (512 : BitVec 16).toNat
      ∧ (s.key (3 : BitVec 16).toNat).isSome = true
      ∧ (∃ e ∈ s.keys, e.2.label = 7)
      ∧ (510000 : BitVec 32).toNat ≤ (510000 : BitVec 32).toNat
      ∧ 7200 < (7201 : BitVec 16).toNat
      ∧ (s.clock.usable = true ∧ (509998 : BitVec 32).toNat + (0 : BitVec 16).toNat + s.clock.u ≤ s.clock.now) := by decide +kernel

theorem witness_RevokeKeyEndsItsShows :
    let s := playing 100
    let old := s.setKey 3 { film with state := .expired }
    (s.ready .mgmt ∧ (3 : BitVec 16).toNat < 512 ∧ s.key (3 : BitVec 16).toNat = some film ∧ film.state ≠ .expired
        ∧ film.state ≠ .revoked)
      ∧ (old.ready .mgmt ∧ old.key (3 : BitVec 16).toNat = some { film with state := .expired })
      ∧ (s.key (511 : BitVec 16).toNat = none ∧ (511 : BitVec 16).toNat < 512) := by decide +kernel

theorem witness_PurgeKeyEmptiesTheSlot :
    let s := playing 100
    (s.ready .mgmt ∧ 512 ≤ (512 : BitVec 16).toNat)
      ∧ ((511 : BitVec 16).toNat < 512 ∧ s.key (511 : BitVec 16).toNat = none)
      ∧ (s.key (3 : BitVec 16).toNat = some film ∧ 0 < s.holderCount (3 : BitVec 16).toNat)
      ∧ (ready.ready .mgmt ∧ ready.key (3 : BitVec 16).toNat = some film ∧ ready.holderCount (3 : BitVec 16).toNat = 0) := by
  decide +kernel

theorem witness_NewStartPassesExactlyWhen :
    let at' (t : Nat) : State := timed .holdover t 1200 ready
    let one := (ready.setKey 3 { film with c := 1 }).setRel 5 { ready.rel 5 with holdings := [3] }
    ((ready.setPort 0 { ready.port 0 with degraded := true }).port 0).degraded = true
      ∧ ((ready.port 0).degraded = false ∧ ready.key 4 = none ∧ ready.key 3 = some film ∧ film.label ≠ 8 ∧ film.label = 7)
      ∧ film.screens.getLsbD (0 : LaneIx).val = true ∧ State.reset.clock.time = .noTime
      ∧ (ready.setKey 3 { film with state := .revoked }).key 3 = some { film with state := .revoked }
      ∧ (ready.setKey 3 { film with screens := 0 }).key 3 = some { film with screens := 0 }
      ∧ ((at' 500001).clock.now < film.nb + (at' 500001).clock.u ∧ film.nb + (at' 500002).clock.u ≤ (at' 500002).clock.now)
      ∧ (film.na ≤ (at' 519998).clock.now + (at' 519998).clock.u ∧ (at' 519997).clock.now + (at' 519997).clock.u < film.na)
      ∧ (film.na + film.a < (at' 519997).clock.now + (at' 519997).clock.u + 1802
        ∧ (at' 519997).clock.now + (at' 519997).clock.u + 1801 ≤ film.na + film.a)
      ∧ (3 ∉ (one.rel 0).holdings ∧ one.key 3 = some { film with c := 1 } ∧ 1 ≤ one.holderCount 3) := by decide +kernel

theorem witness_TakenSerialIsFree :
    let r : Release := { Release.clear with nextSerial := 65535, outstanding := [⟨65535, 3, none⟩, ⟨1, 3, none⟩, ⟨2, 3, none⟩, ⟨3, 3, none⟩] }
    r.outstanding.length ≤ 4 ∧ 1 ≤ r.nextSerial ∧ r.nextSerial ≤ 65535 := by decide +kernel

theorem witness_QueueReelStartsOrStores :
    let p := playing 100
    let h := held true false
    let site : State := { ready with siteHold := true }
    (ready.readyShow 0 ∧ (ready.lane 0).state = .idle ∧ (3 : BitVec 16).toNat < 512 ∧ 1 ≤ (1 : BitVec 16).toNat
        ∧ (1 : BitVec 16).toNat ≤ 14400 ∧ ready.key (3 : BitVec 16).toNat = some film
        ∧ (openingCheck false 0 (3 : BitVec 16).toNat 7 (1 : BitVec 16).toNat ready).refusal = none ∧ ready.siteHold = false
        ∧ (ready.port 0).state = .bound 0x51)
      ∧ (site.readyShow 0 ∧ (site.lane 0).state = .idle ∧ site.siteHold = true ∧ 0 < (site.lane 0).l
        ∧ (openingCheck false 0 3 7 1 site).refusal = none)
      ∧ (p.readyShow 0 ∧ (p.lane 0).state = .playing ∧ (14400 : BitVec 16).toNat ≤ 14400 ∧ p.key (3 : BitVec 16).toNat = some film
        ∧ film.label = 7 ∧ film.state ≠ .revoked ∧ film.state ≠ .expired ∧ film.screens.getLsbD (0 : LaneIx).val = true)
      ∧ (h.readyShow 0 ∧ (h.lane 0).state = .held) := by decide +kernel

theorem witness_QueueReelStartsOrStores_refused :
    let slow := ready.setPort 0 { ready.port 0 with degraded := true }
    let one := (ready.setKey 3 { film with c := 1 }).setRel 5 { ready.rel 5 with holdings := [3] }
    (slow.readyShow 0 ∧ (slow.lane 0).state = .idle ∧ (openingCheck false 0 3 7 1 slow).refusal = some .linkDegraded)
      ∧ (one.readyShow 0 ∧ (one.lane 0).state = .idle ∧ (openingCheck false 0 3 7 1 one).refusal = some .oversubscribed
        ∧ one.key 3 = some { film with c := 1 } ∧ one.mask.getLsbD EventKind.oversubscribed.code = true ∧ one.mgmt.tx.length < 32)
      ∧ (512 ≤ (512 : BitVec 16).toNat ∧ 14400 < (14401 : BitVec 16).toNat ∧ (laneIn .clearing).readyShow 0
        ∧ ((laneIn .clearing).lane 0).state = .clearing) := by decide +kernel

theorem witness_StopShowEndsTheShow :
    let three := entries 3 (some 2) (playing 100)
    let four := entries 4 (some 2) (playing 100)
    (three.readyShow 0 ∧ (three.lane 0).state.running = true ∧ (three.lane 0).active.isSome = true
        ∧ (three.rel 0).outstanding.length < 4)
      ∧ (four.readyShow 0 ∧ (four.lane 0).state.running = true ∧ (four.lane 0).active.isSome = true
        ∧ 4 ≤ (four.rel 0).outstanding.length)
      ∧ (ready.readyShow 0 ∧ (ready.lane 0).state.running = false) := by decide +kernel

theorem witness_HoldAndResumeShow :
    let p := playing 100
    let one := p.setLane 0 { p.lane 0 with l := 1 }
    let h := held true false
    let bound := timed .assured 521698 2000 h
    (one.readyShow 0 ∧ (one.lane 0).state = .playing ∧ 0 < (one.lane 0).l)
      ∧ (h.readyShow 0 ∧ (h.lane 0).state = .held)
      ∧ (ready.readyShow 0 ∧ (ready.lane 0).state.running = false)
      ∧ (bound.readyShow 0 ∧ (bound.lane 0).state = .held ∧ (bound.lane 0).screenHold = true ∧ (bound.lane 0).siteHold = false
        ∧ (bound.lane 0).active = some { slot := 3, label := 7, tag := 0x10, r := 100, serial := 41 } ∧ bound.key 3 = some film
        ∧ bound.clock.usable = true ∧ bound.clock.now + bound.clock.u + 100 = film.na + film.a)
      ∧ ((held true true).readyShow 0 ∧ ((held true true).lane 0).state = .held ∧ ((held true true).lane 0).screenHold = true
        ∧ ((held true true).lane 0).siteHold = true)
      ∧ ((held false true).readyShow 0 ∧ ((held false true).lane 0).screenHold = false) := by decide +kernel

/-- A hold limit of 0, and a re-check that refuses each way, at the boundary of the end bound. -/
theorem witness_HoldAndResumeShow_ends :
    let p := playing 100
    let zero := p.setLane 0 { p.lane 0 with l := 0 }
    let h := held true false
    let late := timed .assured 521699 2000 h
    let a : ActiveReel := { slot := 3, label := 7, tag := 0x10, r := 100, serial := 41 }
    (zero.readyShow 0 ∧ (zero.lane 0).state = .playing ∧ (zero.lane 0).l = 0 ∧ (zero.lane 0).active = some a)
      ∧ (late.readyShow 0 ∧ (late.lane 0).state = .held ∧ (late.lane 0).screenHold = true ∧ (late.lane 0).siteHold = false
        ∧ (late.lane 0).active = some a ∧ late.recheckRefuses a .runsPast)
      ∧ (timed .unassured 510000 3600000 h).recheckRefuses a .timeUnassured
      ∧ ({ h with keys := [] } : State).recheckRefuses a .keyChanged ∧ (h.setKey 3 { film with state := .revoked }).recheckRefuses a .revoked
      ∧ (h.setKey 3 { film with state := .expired }).recheckRefuses a .expired :=
  ⟨by decide +kernel, by decide +kernel, by decide +kernel, by decide +kernel, by decide +kernel, by decide +kernel⟩

theorem witness_BoundaryCompletesOrContinues :
    let s := owing (playing 1)
    let c := owing (queued 3 1 true (playing 1))
    (s.running = true ∧ (s.lane 0).tickOwed = true ∧ (s.lane 0).state = .playing
        ∧ (s.lane 0).active = some { slot := 3, label := 7, tag := 0x10, r := 1, serial := 41 } ∧ (s.lane 0).pending = none
        ∧ (s.rel 0).outstanding.length < 4 ∧ s.isFitted 0 = true ∧ (s.port 0).state.isBound = true
        ∧ (s.link (.screen 0)).tx.length + 2 ≤ 32 ∧ s.kept = none)
      ∧ (c.running = true ∧ (c.lane 0).tickOwed = true ∧ (c.lane 0).state = .playing
        ∧ (c.lane 0).active = some { slot := 3, label := 7, tag := 0x10, r := 1, serial := 41 }
        ∧ (c.lane 0).pending = some { slot := 3, label := 7, d := 1, tie := true, tag := 0x20 }
        ∧ (openingCheck true 0 3 7 1 c).refusal = none ∧ (c.link (.screen 0)).tx.length + 1 ≤ 32 ∧ c.kept = none) := by
  decide +kernel

theorem witness_BoundaryCompletesOrContinues_ends :
    let full := entries 4 (some 9) (owing (playing 1))
    let past := owing (queued 3 14400 true (playing 1))
    (full.running = true ∧ (full.lane 0).tickOwed = true ∧ (full.lane 0).state = .playing
        ∧ (full.lane 0).active = some { slot := 3, label := 7, tag := 0x10, r := 1, serial := 41 } ∧ (full.lane 0).pending = none
        ∧ 4 ≤ (full.rel 0).outstanding.length)
      ∧ (past.running = true ∧ (past.lane 0).tickOwed = true ∧ (past.lane 0).state = .playing
        ∧ (past.lane 0).active = some { slot := 3, label := 7, tag := 0x10, r := 1, serial := 41 }
        ∧ (past.lane 0).pending = some { slot := 3, label := 7, d := 14400, tie := true, tag := 0x20 }
        ∧ (openingCheck true 0 3 7 14400 past).refusal = some .runsPast) := by decide +kernel

theorem witness_BoundaryChangesTheGrant_ends :
    let s := owing (queued 3 5400 false (playing 1))
    let full := entries 4 (some 9) s
    let past := owing (queued 3 14400 false (playing 1))
    let one := ((owing (queued 4 1 false (playing 1))).setKey 4 { film with c := 1 }).setRel 5 { ready.rel 5 with holdings := [4] }
    let a : ActiveReel := { slot := 3, label := 7, tag := 0x10, r := 1, serial := 41 }
    (full.running = true ∧ (full.lane 0).tickOwed = true ∧ (full.lane 0).state = .playing ∧ (full.lane 0).active = some a
        ∧ (full.lane 0).pending = some { slot := 3, label := 7, d := 5400, tie := false, tag := 0x20 }
        ∧ (openingCheck false 0 3 7 5400 full).refusal = none ∧ 4 ≤ (full.rel 0).outstanding.length)
      ∧ ((past.lane 0).state = .playing ∧ (past.lane 0).active = some a ∧ (past.lane 0).tickOwed = true ∧ past.running = true
        ∧ (past.lane 0).pending = some { slot := 3, label := 7, d := 14400, tie := false, tag := 0x20 }
        ∧ (openingCheck false 0 3 7 14400 past).refusal = some .runsPast)
      ∧ ((one.lane 0).state = .playing ∧ (one.lane 0).active = some a ∧ (one.lane 0).tickOwed = true ∧ one.running = true
        ∧ (one.lane 0).pending = some { slot := 4, label := 7, d := 1, tie := false, tag := 0x20 }
        ∧ (openingCheck false 0 4 7 1 one).refusal = some .oversubscribed ∧ one.key 4 = some { film with c := 1 }
        ∧ one.mask.getLsbD EventKind.oversubscribed.code = true ∧ one.mgmt.tx.length < 32 ∧ one.kept = none) := by decide +kernel

theorem witness_BoundaryChangesTheGrant :
    let s0 := owing (queued 3 5400 false (entries 3 (some 9) (playing 1)))
    let s := s0.setLink (.screen 0) { s0.link (.screen 0) with tx := waiting 29 }
    let a : ActiveReel := { slot := 3, label := 7, tag := 0x10, r := 1, serial := 41 }
    let p : PendingReel := { slot := 3, label := 7, d := 5400, tie := false, tag := 0x20 }
    s.running = true ∧ (s.lane 0).tickOwed = true ∧ (s.lane 0).state = .playing ∧ (s.lane 0).active = some a
      ∧ (s.lane 0).pending = some p ∧ continues p a = false ∧ s.key p.slot = some film
      ∧ (openingCheck false 0 p.slot p.label p.d s).refusal = none ∧ (s.rel 0).outstanding.length < 4 ∧ s.isFitted 0 = true
      ∧ (s.port 0).state = .bound 0x51 ∧ (s.link (.screen 0)).tx.length + 3 ≤ 32 ∧ s.kept = none := by decide +kernel

theorem witness_HoldLimitEndsTheShow :
    let s := entries 3 (some 9) (owing (held true false))
    s.running = true ∧ (s.lane 0).tickOwed = true ∧ (s.lane 0).state = .held
      ∧ (s.lane 0).active = some { slot := 3, label := 7, tag := 0x10, r := 100, serial := 41 } ∧ (s.lane 0).holdTimer = some 5
      ∧ (s.lane 0).holdLimit = some 6 ∧ 5 + 1 = 6 ∧ (s.rel 0).outstanding.length < 4 ∧ s.isFitted 0 = true
      ∧ (s.port 0).state.isBound = true ∧ (s.link (.screen 0)).tx.length + 2 ≤ 32 ∧ s.kept = none
      ∧ 4 ≤ ((entries 4 (some 9) s).rel 0).outstanding.length := by decide +kernel

theorem witness_SiteHoldHoldsAndFrees :
    let up (s : State) : State := { s with supply := { s.supply with siteLine := true }, siteStableMs := 199 }
    let down (s : State) : State := { s with siteHold := true, siteStableMs := 199 }
    (State.reset.supply.siteLine ≠ true)
      ∧ ((up (playing 100)).running = true ∧ (up (playing 100)).supply.siteLine = true ∧ (up (playing 100)).siteHold = false
        ∧ 200 ≤ (up (playing 100)).siteStableMs + 1
        ∧ (∀ n : LaneIx, ((up (playing 100)).lane n).state = .playing → 0 < ((up (playing 100)).lane n).l)
        ∧ ((up (playing 100)).lane 0).state = .playing ∧ ((up (held true false)).lane 0).state = .held)
      ∧ ((down (held false true)).running = true ∧ (down (held false true)).supply.siteLine = false
        ∧ (down (held false true)).siteHold = true ∧ 200 ≤ (down (held false true)).siteStableMs + 1
        ∧ ((down (held false true)).lane 0).state = .held ∧ ((down (held false true)).lane 0).siteHold = true
        ∧ ((down (held false true)).lane 0).screenHold = false
        ∧ recheck { slot := 3, label := 7, tag := 0x10, r := 100, serial := 41 } (down (held false true)) = none)
      ∧ ((down (held true true)).lane 0).screenHold = true
      ∧ (let zero := (playing 100).setLane 0 { (playing 100).lane 0 with l := 0 }
        ((up zero).lane 0).state = .playing ∧ ((up zero).lane 0).l = 0 ∧ ((up zero).lane 0).active.isSome = true)
      ∧ (timed .assured 521699 2000 (down (held false true))).recheckRefuses
          { slot := 3, label := 7, tag := 0x10, r := 100, serial := 41 } .runsPast := by decide +kernel

theorem witness_SetLaneParametersClamps :
    let s : State := { ready with supply := { ready.supply with fitted := 12 } }
    s.ready .mgmt ∧ laneOf 11 = some 11 ∧ s.isFitted 11 = true ∧ laneOf 12 = some 12 ∧ s.isFitted 12 = false ∧ laneOf 16 = none := by
  decide +kernel

theorem witness_TimeoutsQuarantineTheLane :
    let s := entries 4 (some 0) (playing 100)
    let c := (laneIn .clearing).setRel 0 { (laneIn .clearing).rel 0 with clearing := some 0 }
    (s.running = true ∧ (s.lane 0).state.inService = true ∧ (s.rel 0).timedOut ≠ [])
      ∧ (c.running = true ∧ (c.lane 0).state = .clearing ∧ (c.rel 0).clearing = some 0) := by decide +kernel

theorem witness_ErasedConfirmsOneGrant :
    let s := entries 1 (some 2) (playing 100)
    (s.readyScreen 0 ∧ (1 : BitVec 16).toNat ≠ 0
        ∧ (s.rel 0).outstanding.find? (fun x => x.serial == (1 : BitVec 16).toNat) = some ⟨1, 3, some 2⟩)
      ∧ ((∀ e ∈ (s.rel 0).outstanding, e.serial ≠ (41 : BitVec 16).toNat) ∧ (41 : BitVec 16).toNat ≠ 0
        ∧ (s.lane 0).state.running = true
        ∧ (s.lane 0).active = some { slot := 3, label := 7, tag := 0x10, r := 100, serial := (41 : BitVec 16).toNat })
      ∧ ((∀ e ∈ (s.rel 0).outstanding, e.serial ≠ (0 : BitVec 16).toNat) ∧ (0 : BitVec 16).toNat = 0) := by decide +kernel

theorem witness_ErasedAllEmptiesTheLane :
    ((laneIn .clearing).readyScreen 0 ∧ ((laneIn .clearing).lane 0).state = .clearing)
      ∧ ((playing 100).readyScreen 0 ∧ ((playing 100).lane 0).state.inService = true)
      ∧ (ready.readyScreen 0 ∧ (ready.lane 0).state = .idle) := by decide +kernel

theorem witness_ErasedAllIsRefusedInQuarantine :
    (laneIn .quarantine).readyScreen 0 ∧ ((laneIn .quarantine).lane 0).state = .quarantine := by decide +kernel

theorem witness_RestoreLaneStartsAClearing :
    let s0 := laneIn .quarantine
    let s := s0.setLink (.screen 0) { s0.link (.screen 0) with tx := waiting 31 }
    (s.ready .mgmt ∧ laneOf 0 = some 0 ∧ (s.lane 0).state = .quarantine ∧ (s.port 0).boundScreen = true ∧ s.isFitted 0 = true
        ∧ (s.link (.screen 0)).tx.length < 32)
      ∧ (ready.ready .mgmt ∧ (ready.lane 0).state ≠ .quarantine)
      ∧ ((s.setPortState 0 .unbound).ready .mgmt ∧ ((s.setPortState 0 .unbound).port 0).boundScreen = false)
      ∧ (s.ready .mgmt ∧ 15 < (16 : Byte).toNat) := by decide +kernel

theorem witness_VoidHoldingsWritesOff :
    let s := (laneIn .quarantine).setPortState 0 .unbound
    (s.ready .mgmt ∧ 15 < (16 : Byte).toNat)
      ∧ (laneOf 0 = some 0 ∧ (s.lane 0).state = .quarantine ∧ (s.port 0).boundScreen = false)
      ∧ (State.reset.ready .mgmt ∧ laneOf 15 = some 15 ∧ (State.reset.lane 15).state = .offline
        ∧ (State.reset.port 15).boundScreen = false)
      ∧ ((laneIn .quarantine).ready .mgmt ∧ ((laneIn .quarantine).port 0).boundScreen = true) := by decide +kernel

/-- The part without main power, with a marker. -/
def dark (marker : Bool) : State :=
  let s := playing 100
  { s with
    supply := { s.supply with mainOn := false, markerGood := marker }
    clock := { s.clock with time := .holdover, h := some 0 } }

theorem witness_MainPowerFailKeepsTheRetainedDomain :
    (ready.supply.mainOn = true ∧ ready.clock.time = .assured)
      ∧ (State.reset.supply.mainOn = true ∧ State.reset.clock.time ≠ .assured) ∧ (dark true).supply.mainOn = false
      ∧ (let s := aligned 0 true ready
        s.running = true ∧ s.framer.nextStart = false ∧ s.framer.missingRun < 32 ∧ s.framer.state = .aligned ∧ s.framer.fresh = true
          ∧ s.framer.superframePeriod = 0 ∧ s.clock.time = .assured ∧ s.clock.t = some 510000)
      ∧ (let s : State := { ready with clock := { ready.clock with osc := 32767 } }
        s.supply.mainOn = true ∧ s.supply.markerGood = true ∧ s.pending = [] ∧ settleDue s = s ∧ s.clock.time = .assured
          ∧ s.clock.t = some 510000 ∧ 32768 ≤ s.clock.osc + 1) := by
  decide +kernel

theorem witness_MainPowerUpReadsTheMarker :
    ((dark true).supply.mainOn = false ∧ (dark true).supply.markerGood = true ∧ (dark true).supply.resetPin = false
        ∧ (dark true).supply.backupLostOwed = false ∧ (dark true).clock.time ≠ .assured)
      ∧ ((dark false).supply.mainOn = false ∧ (dark false).supply.markerGood = false ∧ (dark false).supply.resetPin = false)
      ∧ (let pin (s : State) : State := { s with supply := { s.supply with resetPin := true } }
        (pin (dark true)).supply.mainOn = false ∧ (pin (dark true)).supply.resetPin = true
          ∧ (pin (dark true)).supply.markerGood = true ∧ (pin (dark true)).clock.time ≠ .assured
          ∧ (pin (dark false)).supply.markerGood = false) := by
  decide +kernel

theorem witness_ResetInputHoldsThePart :
    let s : State := { ready with supply := { ready.supply with resetPin := true, inReset := true } }
    (ready.supply.mainOn = true ∧ ready.supply.resetPin = false)
      ∧ (s.supply.mainOn = true ∧ s.supply.resetPin = true ∧ s.supply.inReset = true ∧ s.supply.backupLostOwed = false)
      ∧ ({ s with supply := { s.supply with backupLostOwed := true } } : State).supply.backupLostOwed = true := by
  decide +kernel

theorem witness_BitPeriodEndClassifiesTheBit :
    let silent (clean : Nat) : State := { ready with framer := { ready.framer with state := .silent, clean := clean, missingRun := 33 } }
    let late : State := { ready with framer := { ready.framer with missingRun := 31 } }
    State.reset.lineQuiet ∧ (silent 63).lineQuiet ∧ late.lineQuiet ∧ (framed .search false ready).lineQuiet
      ∧ (framed .search false ready).framer.fresh = true ∧ (aligned 56 false ready).lineQuiet
      ∧ (confirming 127 false false none ready).lineQuiet := by decide +kernel

theorem witness_TransitionsMarkThePeriod :
    let s := State.reset
    (s.running = true ∧ s.framer.nextStart = false)
      ∧ (4 * (s.framer.gridPhase + 1953124) < 7812500 ∧ s.framer.startSeen = false)
      ∧ (7812500 < 4 * (s.framer.gridPhase + 1953126) ∧ 4 * (s.framer.gridPhase + 5859374) < 3 * 7812500)
      ∧ (3 * 7812500 < 4 * (s.framer.gridPhase + 5859376) ∧ s.framer.gridPhase + 7812499 < 7812500) := by decide +kernel

theorem witness_SilenceEntersAndCleanWindowLeaves :
    let f (state : FramerState) : State := { ready with framer := { ready.framer with state := state, missingRun := 32, clean := 64 } }
    ((f .search).running = true ∧ 32 ≤ (f .search).framer.missingRun ∧ (f .search).framer.state ≠ .silent
        ∧ (f .search).framer.state ≠ .aligned)
      ∧ ((f .aligned).running = true ∧ 32 ≤ (f .aligned).framer.missingRun ∧ (f .aligned).framer.state = .aligned)
      ∧ ((f .silent).running = true ∧ (f .silent).framer.state = .silent ∧ 64 ≤ (f .silent).framer.clean) := by decide +kernel

theorem witness_CandidateAndItsMimics :
    let m (age : Nat) (strict : Bool) := confirming age strict true none ready
    ((framed .search true ready).running = true ∧ (framed .search true ready).framer.fresh = true
        ∧ (framed .search true ready).framer.patternMatch = true ∧ (framed .search true ready).framer.state = .search)
      ∧ ((m 127 false).framer.patternMatch = true ∧ (m 127 false).framer.fresh = true ∧ (m 127 false).framer.state = .confirm
        ∧ (m 127 false).framer.candidate = some { position := 56, age := 127, strict := false, gathered := none })
      ∧ ((m 303 true).framer.patternMatch = true ∧ (m 303 true).framer.fresh = true ∧ (m 303 true).framer.state = .confirm
        ∧ (m 303 true).framer.candidate = some { position := 56, age := 303, strict := true, gathered := none }) := by decide +kernel

theorem witness_ConfirmTestDeclaresAlignment :
    let m (pattern : Bool) := confirming 128 false pattern none ready
    (m false).running = true ∧ (m false).framer.state = .confirm ∧ (m false).framer.fresh = true
      ∧ (m false).framer.candidate = some { position := 56, age := 128, strict := false, gathered := none }
      ∧ (m false).framer.patternMatch = false ∧ (m true).framer.patternMatch = true := by decide +kernel

theorem witness_StrictConfirmTestsTheCandidate :
    let m (age : Nat) := confirming age true false (some (covered 0 0)) ready
    let c (age : Nat) : Candidate := { position := 56, age := age, strict := true, gathered := some (covered 0 0) }
    let bad := confirming 304 true false (some (covered 0 1)) ready
    ((m 128).running = true ∧ (m 128).framer.state = .confirm ∧ (m 128).framer.fresh = true
        ∧ (m 128).framer.candidate = some (c 128) ∧ (m 256).framer.candidate = some (c 256))
      ∧ ((m 304).framer.candidate = some (c 304) ∧ (m 304).framer.strictCheck (c 304) = some (covered 0 0))
      ∧ (bad.framer.candidate = some { c 304 with gathered := some (covered 0 1) }
        ∧ bad.framer.strictCheck { c 304 with gathered := some (covered 0 1) } = none) := by decide +kernel

theorem witness_SuperframeStartIsTheTickInAssured :
    let s (t : State) := aligned 0 false t
    ((s State.reset).running = true ∧ (s State.reset).framer.state = .aligned ∧ (s State.reset).framer.fresh = true
        ∧ (s State.reset).framer.superframePeriod = 0 ∧ (s State.reset).clock.time ≠ .assured)
      ∧ ((s ready).running = true ∧ (s ready).framer.state = .aligned ∧ (s ready).framer.fresh = true
        ∧ (s ready).framer.superframePeriod = 0 ∧ (s ready).clock.time = .assured ∧ (s ready).clock.t = some 510000) := by
  decide +kernel

theorem witness_AlignmentTestJudgesTheSuperframe :
    let s (window : List Bool) : State :=
      { aligned 57 false ready with framer := { (aligned 57 false ready).framer with lossWindow := window } }
    let window (s : State) := ((!s.framer.patternMatch) :: s.framer.lossWindow).take 8
    ((s [true]).running = true ∧ (s [true]).framer.state = .aligned ∧ (s [true]).framer.fresh = true
        ∧ (s [true]).framer.superframePeriod = 57 ∧ (s [true]).framer.patternMatch = false
        ∧ ((window (s [true])).filter id).length < (s [true]).framer.kTaken)
      ∧ (s [true, true]).framer.kTaken ≤ ((window (s [true, true])).filter id).length := by decide +kernel

theorem witness_SuperframeEndReports :
    let s (bits : Option (List LineBit)) (prev : Option Nat) : State :=
      { aligned 105 false (playing 100) with
        framer := { (aligned 105 false ready).framer with
          awaiting := bits, heldBytes := some (broadcast (covered 0 0)), checkEnds := 5, checkFails := 3 }
        clock := { ready.clock with prev := prev, floor := 1, miss := 2 } }
    let good : State := { s (some (covered 1 2)) (some 0) with
      framer := { (s (some (covered 1 2)) (some 0)).framer with
        history := (List.range 128).map (fun i => if i == 40 || i == 16 then .one else .zero) } }
    ((s none none).running = true ∧ (s none none).framer.state = .aligned ∧ (s none none).framer.fresh = true
        ∧ (s none none).framer.superframePeriod = 105 ∧ (s none none).framer.awaiting = none)
      ∧ ((s (some (covered 0 0)) none).framer.awaiting = some (covered 0 0)
        ∧ checkPasses (covered 0 0) (s (some (covered 0 0)) none).framer.carriedCheck = true
        ∧ (s (some (covered 0 0)) none).framer.heldBytes = some (broadcast (covered 0 0))
        ∧ (s (some (covered 0 0)) none).framer.captured ≠ some (broadcast (covered 0 0))
        ∧ (s (some (covered 0 0)) none).clock.prev ≠ some (timeWord (covered 0 0) - 1)
        ∧ (s (some (covered 0 0)) none).clock.regress = false ∧ timeWord (covered 0 0) < (s (some (covered 0 0)) none).clock.floor)
      ∧ (checkPasses (covered 0 1) (s (some (covered 0 1)) none).framer.carriedCheck = false
        ∧ (s (some (covered 0 1)) none).framer.checkLossTaken = true ∧ (s (some (covered 0 1)) none).framer.eTaken = 3 + 1)
      ∧ (good.framer.awaiting = some (covered 1 2) ∧ checkPasses (covered 1 2) good.framer.carriedCheck = true
        ∧ good.running = true ∧ good.framer.state = .aligned ∧ good.framer.fresh = true ∧ good.framer.superframePeriod = 105
        ∧ good.clock.prev = some (timeWord (covered 1 2) - 1) ∧ 1 ≤ timeWord (covered 1 2) ∧ quality (covered 1 2) ≤ 2
        ∧ good.clock.floor ≤ timeWord (covered 1 2))
      ∧ (good.clock.t = some 510000 ∧ 510000 ≠ timeWord (covered 1 2) ∧ (good.lane 0).state.running = true
        ∧ (good.lane 0).active = some { slot := 3, label := 7, tag := 0x10, r := 100, serial := 41 } ∧ good.key 3 = some film
        ∧ film.label = 7 ∧ film.state ≠ .revoked ∧ film.state ≠ .expired) := by decide +kernel

theorem witness_ReferenceFailedAndReframe :
    let s : State := { State.reset with framer := { State.reset.framer with tickOwed := true, failTimer := 9 } }
    let f (state : FramerState) : State := framed state false State.reset
    (s.running = true ∧ s.framer.tickOwed = true ∧ s.framer.state ≠ .aligned ∧ s.framer.alarm = false
        ∧ s.clock.params.failTime ≤ min 120 (s.framer.failTimer + 1))
      ∧ ((f .silent).ready .mgmt ∧ (f .silent).framer.state = .silent) ∧ (f .search).framer.state = .search
      ∧ (f .confirm).framer.state = .confirm ∧ (f .aligned).framer.state = .aligned := by decide +kernel

end Sys2Proof.Tests
end

section
/-! PROOFS. What an elapsed tick does at each of its receivers: the framer, the fitted ports and the lanes, one after the other and
each beside the others' work (R24). -/

namespace Sys2Proof.Machine

/-! ## What work leaves of the settings -/

theorem Works.running_eq {s t : State} (h : Works s t) : t.running = s.running := running_congr h.settings.1

theorem Works.isFitted_eq {s t : State} (h : Works s t) (n : LaneIx) : t.isFitted n = s.isFitted n :=
  isFitted_congr h.settings.1 n

theorem Works.lane_dt {s t : State} (h : Works s t) (n : LaneIx) : (t.lane n).dt = (s.lane n).dt := by
  obtain ⟨-, -, -, -, -, -, -, hlanes⟩ := h.settings
  obtain ⟨-, -, -, hdt⟩ := hlanes n
  exact hdt

/-! ## One lane's turn among the others -/

/-- An operation on each of the lanes comes to lane n once: what the other lanes' turns do, before it and after it, is all that
stands around it. -/
theorem forLanes_through (n : LaneIx) (R : State → State → Prop) (refl : ∀ s, R s s)
    (trans : ∀ {s t u}, R s t → R t u → R s u) {f : LaneIx → State → State} (h : ∀ m, m ≠ n → ∀ s, R s (f m s)) (s : State) :
    ∃ u, R s u ∧ R (f n u) (s.forLanes f) := by
  have others : ∀ (ls : List LaneIx), n ∉ ls → ∀ s, R s (ls.foldl (fun s m => f m s) s) := by
    intro ls
    induction ls with
    | nil => exact fun _ s => refl s
    | cons m ls ih =>
      intro hn s
      obtain ⟨hm, hls⟩ := not_or.mp (mt List.mem_cons.mpr hn)
      exact trans (h m (Ne.symm hm) s) (ih hls (f m s))
  obtain ⟨before, after, hsplit⟩ := List.append_of_mem (mem_allLanes n)
  have hnodup : n ∉ before ++ after := (List.nodup_middle.mp (hsplit ▸ allLanes_nodup)).notMem
  obtain ⟨hbefore, hafter⟩ := not_or.mp (mt List.mem_append.mpr hnodup)
  refine ⟨_, others before hbefore s, ?_⟩
  rw [State.forLanes, hsplit, List.foldl_append, List.foldl_cons]
  exact others after hafter _

/-- Lane n and its items in the Release Unit stay, of every key's record all but its openings count and its mark, the settings and
the sticky flags that are set: what work elsewhere leaves to lane n. -/
structure Beside (n : LaneIx) (s t : State) : Prop extends Works s t where
  lane : t.lane n = s.lane n
  rel : t.rel n = s.rel n
  key : ∀ slot, (t.key slot).map Key.settled = (s.key slot).map Key.settled

theorem Beside.refl (n : LaneIx) (s : State) : Beside n s s := ⟨Works.refl s, rfl, rfl, fun _ => rfl⟩

theorem Beside.trans {n : LaneIx} {s t u : State} (h : Beside n s t) (k : Beside n t u) : Beside n s u :=
  ⟨h.toWorks.trans k.toWorks, k.lane.trans h.lane, k.rel.trans h.rel, fun i => (k.key i).trans (h.key i)⟩

/-- The work of another lane. -/
theorem Local.beside {n m : LaneIx} {s t : State} (h : Local m s t) (hw : Works s t) (hm : m ≠ n) : Beside n s t :=
  ⟨hw, h.lane n hm.symm, h.rel n hm.symm, h.key⟩

/-- Work that leaves all lanes, grants and keys. -/
theorem Works.beside {s t : State} (h : Works s t) (hl : t.lanes = s.lanes) (hr : t.releases = s.releases)
    (hk : t.keys = s.keys) (n : LaneIx) : Beside n s t :=
  ⟨h, by simp only [State.lane, hl], by simp only [State.rel, hr], fun _ => by simp only [State.key, hk]⟩

/-- An operation on each of the lanes, which finds nothing to do at lane n. -/
theorem forLanes_beside {n : LaneIx} {f : LaneIx → State → State} (hf : ∀ m, m ≠ n → ∀ s, Beside n s (f m s)) {s : State}
    (hn : ∀ u, Beside n s u → f n u = u) : Beside n s (s.forLanes f) := by
  obtain ⟨u, before, after⟩ := forLanes_through n (Beside n) (Beside.refl n) Beside.trans hf s
  rw [hn u before] at after
  exact before.trans after

theorem Key.settled_state (k : Key) : k.settled.state = k.state := rfl

theorem Key.settled_judged (k : Key) (t u : Nat) : k.settled.judged t u = k.judged t u := rfl

/-- A window evaluation expires the same keys whatever their openings counts and marks (R57). -/
theorem Beside.expiresAt_iff {n : LaneIx} {s t : State} (h : Beside n s t) (c : Clock) (slot : Nat) :
    t.expiresAt c slot ↔ s.expiresAt c slot := by
  have judge (o : Option Key) : o.any (fun k => k.state != .expired && k.judged c.now c.u == .expired)
      = (o.map Key.settled).any (fun k => k.state != .expired && k.judged c.now c.u == .expired) := by cases o <;> rfl
  rw [State.expiresAt, State.expiresAt, judge (t.key slot), judge (s.key slot), h.key slot]

/-! ## The work of a tick leaves port states -/

@[simp] theorem port_raise (s : State) (e : Event) (m : LaneIx) : (s.raise e).port m = s.port m := by
  unfold State.raise
  split
  · dsimp only
    split
    · split <;> rfl
    · rfl
  · rfl

@[simp] theorem portState_notify (s : State) (n m : LaneIx) (x : Notice) :
    ((s.notify n x).port m).state = (s.port m).state := (notify_quiet s n x).portState m

@[simp] theorem portState_reportShowEnd (n m : LaneIx) (l : Lane) (reason : ShowReason) (s : State) :
    ((reportShowEnd n l reason s).port m).state = (s.port m).state := (reportShowEnd_quiet n l reason s).portState m

@[simp] theorem portState_quarantine (n m : LaneIx) (cause : QuarantineCause) (s : State) :
    ((quarantine n cause s).port m).state = (s.port m).state := by
  unfold quarantine
  split
  · rfl
  · dsimp only
    split <;> simp [recordQuarantine, cancelDeadlines, dropShow]

@[simp] theorem portState_withdraw (n m : LaneIx) (a : ActiveReel) (s : State) :
    ((withdraw n a s).port m).state = (s.port m).state := by simp [withdraw]

@[simp] theorem portState_endShow (n m : LaneIx) (reason : ShowReason) (s : State) :
    ((endShow n reason s).port m).state = (s.port m).state := by
  unfold endShow endShowWith
  split
  · rfl
  · split <;> simp [dropShow]

@[simp] theorem portState_issueGrant (n m : LaneIx) (slot : Nat) (tag : ReelTag) (d : Nat) (s : State) :
    (((issueGrant n slot tag d s).1).port m).state = (s.port m).state := by
  unfold issueGrant
  dsimp only
  split <;> simp

@[simp] theorem portState_noteCheck (n m : LaneIx) (slot : Nat) (report : CheckReport) (s : State) :
    ((noteCheck n slot report s).port m).state = (s.port m).state := by
  unfold noteCheck noteOversubscribed
  split
  · split <;> simp
  · rfl

theorem portState_newGrantBoundary (n m : LaneIx) (a : ActiveReel) (p : PendingReel) (s : State) :
    ((newGrantBoundary n a p s).port m).state = (s.port m).state := by
  unfold newGrantBoundary
  dsimp only
  split
  · simp
  · split
    · simp
    · simp [changeGrant]

@[simp] theorem portState_reachBoundary (n m : LaneIx) (a : ActiveReel) (s : State) :
    ((reachBoundary n a s).port m).state = (s.port m).state := by
  unfold reachBoundary
  split
  · unfold completeShow
    dsimp only
    split <;> simp
  · split
    · unfold continuationBoundary
      split <;> simp
    · exact portState_newGrantBoundary n m a _ s

@[simp] theorem portState_laneTick (n m : LaneIx) (s : State) : ((laneTick n s).port m).state = (s.port m).state := by
  unfold laneTick
  dsimp only
  split
  · split <;> simp
  · split <;> simp
  · simp

@[simp] theorem portState_countDownLane (n m : LaneIx) (s : State) :
    ((countDownLane n s).port m).state = (s.port m).state := by
  unfold countDownLane
  split
  · simp
  · split <;> simp

@[simp] theorem portState_timeOutWithdrawals (n m : LaneIx) (s : State) :
    ((timeOutWithdrawals n s).port m).state = (s.port m).state := by
  unfold timeOutWithdrawals
  dsimp only
  split <;> simp

@[simp] theorem portState_timeOutClearing (n m : LaneIx) (s : State) :
    ((timeOutClearing n s).port m).state = (s.port m).state := by
  unfold timeOutClearing
  split <;> simp

@[simp] theorem portState_expireAt (slot : Nat) (n m : LaneIx) (s : State) :
    ((expireAt slot n s).port m).state = (s.port m).state := by
  unfold expireAt
  split <;> simp

theorem portState_forLanes {f : LaneIx → State → State} {m : LaneIx} (h : ∀ n s, ((f n s).port m).state = (s.port m).state)
    (s : State) : ((s.forLanes f).port m).state = (s.port m).state := by
  obtain ⟨u, before, after⟩ := forLanes_through m (fun s t => (t.port m).state = (s.port m).state) (fun _ => rfl)
    (fun h k => k.trans h) (fun n _ => h n) s
  exact after.trans ((h m u).trans before)

@[simp] theorem portState_evaluateSlot (slot : Nat) (m : LaneIx) (s : State) :
    ((evaluateSlot slot s).port m).state = (s.port m).state := by
  unfold evaluateSlot
  split
  · rfl
  · dsimp only
    split
    · rfl
    · split
      · rw [expiryNotice, portState_forLanes (fun n => portState_expireAt slot n m)]; simp
      · simp

/-- An evaluation of all slots does what evaluations of single slots do. -/
theorem evaluate_through (R : State → State → Prop) (refl : ∀ s, R s s) (trans : ∀ {s t u}, R s t → R t u → R s u)
    (h : ∀ slot s, R s (evaluateSlot slot s)) (s : State) : R s (evaluate s) := by
  unfold evaluate
  split
  · generalize s.keys.map Prod.fst = slots
    have all : ∀ s, R s (slots.foldl (fun s slot => evaluateSlot slot s) s) := by
      induction slots with
      | nil => exact refl
      | cons slot slots ih => exact fun s => trans (h slot s) (ih _)
    exact all s
  · exact refl s

theorem portState_evaluate (m : LaneIx) (s : State) : ((evaluate s).port m).state = (s.port m).state :=
  evaluate_through (fun s t => (t.port m).state = (s.port m).state) (fun _ => rfl) (fun h k => k.trans h)
    (fun slot => portState_evaluateSlot slot m) s

/-! ## An evaluation at a lane whose active reel's key it does not expire (R57, R58, R99) -/

/-- No key on which lane n runs a show would move to EXPIRED under the clock as it stands. -/
def State.spares (s : State) (n : LaneIx) : Prop :=
  ∀ a, (s.lane n).state.running = true → (s.lane n).active = some a →
    ∀ k, s.key a.slot = some k → k.judged s.clock.now s.clock.u = .expired → k.state = .expired

theorem Beside.spares {n : LaneIx} {s t : State} (h : Beside n s t) (hc : t.clock = s.clock) (hs : s.spares n) :
    t.spares n := by
  intro a hrun hact k hk
  rw [h.lane] at hrun hact
  have hkey := h.key a.slot
  rw [hk] at hkey
  obtain ⟨k0, hk0, hsettled⟩ := Option.map_eq_some_iff.mp hkey.symm
  rw [← k.settled_state, ← k.settled_judged, ← hsettled, hc]
  exact hs a hrun hact k0 hk0

/-- A key that has been judged is where its judgement would leave it (R57). -/
theorem judged_moved_judged (k : Key) (t u at' : Nat) : (k.moved (k.judged t u) at').judged t u = k.judged t u := by
  have hf (st : KeyState) : (k.moved st at').furthest t u = k.furthest t u := rfl
  unfold Key.judged
  cases hs : k.state with
  | expired => rfl
  | revoked => rfl
  | _ =>
    simp only [hf]
    cases k.furthest t u with
    | none => simp [Key.moved]
    | some f => cases f <;> simp [Key.moved, KeyState.rank]

theorem expireAt_local (slot : Nat) (n : LaneIx) (s : State) : Local n s (expireAt slot n s) := by
  unfold expireAt
  split
  · exact endShow_local n _ s
  · exact Local.refl n s

/-- The expiry notice of a slot passes by a lane that runs no show on it (R99). -/
theorem expiryNotice_beside {n : LaneIx} {slot : Nat} {s : State}
    (h : ∀ a, (s.lane n).state.running = true → (s.lane n).active = some a → a.slot ≠ slot) :
    Beside n s (expiryNotice slot s) := by
  refine forLanes_beside (fun m hm u => (expireAt_local slot m u).beside (expireAt_sends slot m u).works hm) fun u hu => ?_
  unfold expireAt
  split
  · next hhit =>
    rw [hu.lane, Bool.and_eq_true] at hhit
    obtain ⟨hrun, hon⟩ := hhit
    obtain ⟨a, hact, hslot⟩ := (Option.any_eq_true _ _).mp hon
    exact absurd (by simpa using hslot) (h a hrun hact)
  · rfl

/-- A key moved where its judgement takes it leaves lane n as safe as it was: the key is not judged again. -/
theorem spares_of_moved {n : LaneIx} {slot : Nat} {k : Key} {s t : State} (hs : s.spares n) (hlane : t.lane n = s.lane n)
    (hclock : t.clock = s.clock) (hother : ∀ i, i ≠ slot → t.key i = s.key i)
    (hkey : t.key slot = some (k.moved (k.judged s.clock.now s.clock.u) s.clock.now)) : t.spares n := by
  intro a hrun hact k' hk' hexp
  rw [hlane] at hrun hact
  rw [hclock] at hexp
  by_cases ha : a.slot = slot
  · rw [ha, hkey] at hk'
    rw [← Option.some.inj hk', judged_moved_judged] at hexp
    rw [← Option.some.inj hk']
    exact hexp
  · rw [hother _ ha] at hk'
    exact hs a hrun hact k' hk' hexp

/-- The evaluation of one slot leaves a lane whose active reel's key it does not expire. -/
theorem evaluateSlot_spares {n : LaneIx} (slot : Nat) (s : State) (hs : s.spares n) :
    (evaluateSlot slot s).spares n ∧ (evaluateSlot slot s).lane n = s.lane n ∧ (evaluateSlot slot s).rel n = s.rel n := by
  unfold evaluateSlot
  split
  · exact ⟨hs, rfl, rfl⟩
  · next k hk =>
    dsimp only
    split
    · exact ⟨hs, rfl, rfl⟩
    · next hmoves =>
      generalize hm : (s.setKey slot (k.moved (k.judged s.clock.now s.clock.u) s.clock.now)).raise _ = moved
      have hlane : moved.lane n = s.lane n := by simp [← hm]
      have hrel : moved.rel n = s.rel n := by simp [← hm]
      have hspares : moved.spares n := spares_of_moved hs hlane (by simp [← hm])
        (fun i hi => by rw [← hm, key_raise, key_setKey_other _ _ hi]) (by rw [← hm, key_raise, key_setKey_same])
      split
      · next hexpires =>
        obtain ⟨hexp, -⟩ := hexpires
        have hb : Beside n moved (expiryNotice slot moved) := expiryNotice_beside fun a hrun hact hslot => by
          rw [hlane] at hrun hact
          exact hmoves (hexp.trans (hs a hrun hact k (hslot ▸ hk) hexp).symm)
        exact ⟨hb.spares (expiryNotice_sends slot moved).clock hspares, hb.lane.trans hlane, hb.rel.trans hrel⟩
      · exact ⟨hspares, hlane, hrel⟩

/-- An evaluation that expires no key on which lane n runs a show leaves the lane (R99). -/
theorem evaluate_lane (n : LaneIx) (s : State)
    (h : ∀ a, (s.lane n).state.running = true → (s.lane n).active = some a → ¬ s.expiresAt s.clock a.slot) :
    (evaluate s).lane n = s.lane n ∧ (evaluate s).rel n = s.rel n := by
  by_cases hu : s.clock.usable = true
  · have hs : s.spares n := by
      intro a hrun hact k hk hexp
      by_contra hne
      exact h a hrun hact ⟨hu, by simp [hk, hexp, hne]⟩
    exact (evaluate_through (fun s t => s.spares n → t.spares n ∧ t.lane n = s.lane n ∧ t.rel n = s.rel n)
      (fun _ hs => ⟨hs, rfl, rfl⟩)
      (fun h k hs =>
        have ⟨ht, hl, hr⟩ := h hs
        have ⟨hu, kl, kr⟩ := k ht
        ⟨hu, kl.trans hl, kr.trans hr⟩)
      (fun slot s => evaluateSlot_spares slot s) s hs).2
  · simp [evaluate, hu]

/-! ## A lane's share where no countdown of it ends (R84, R97, R136, R148) -/

/-- A lane one elapsed tick on, its reel not at its boundary and its hold not at its limit (R84, R97). -/
def Lane.ticked (l : Lane) : Lane :=
  match l.state, l.active, l.holdTimer, l.holdLimit with
  | .playing, some a, _, _ => { l with active := some { a with r := a.r - 1 } }
  | .held, some _, some timer, some _ => { l with holdTimer := some (timer + 1) }
  | _, _, _, _ => l

/-- The Release Unit's items of a lane in a state, one elapsed tick on: the entries' countdowns in service, the clearing's in
CLEARING (R136, R148). -/
def Release.ticked (r : Release) (st : LaneState) : Release :=
  if st.inService then { r with outstanding := r.outstanding.map (fun e => { e with countdown := countDown e.countdown }) }
  else if st = .clearing then { r with clearing := countDown r.clearing }
  else r

/-- No entry's countdown, and no clearing of a lane in CLEARING, is at its end or one tick before it. -/
abbrev DeadlinesRun (l : Lane) (r : Release) : Prop :=
  (∀ e ∈ r.outstanding, runsOn e.countdown) ∧ (l.state = .clearing → runsOn r.clearing)

theorem Lane.ticked_state (l : Lane) : l.ticked.state = l.state := by
  unfold Lane.ticked
  split <;> rfl

/-- The tick leaves a lane its active reel's slot. -/
theorem Lane.slot_of_ticked {l : Lane} {a : ActiveReel} (h : l.ticked.active = some a) :
    ∃ a0, l.active = some a0 ∧ a0.slot = a.slot := by
  unfold Lane.ticked at h
  split at h
  · next a0 _ hact =>
    obtain rfl := Option.some.inj h
    exact ⟨a0, hact, rfl⟩
  · exact ⟨a, h, rfl⟩
  · exact ⟨a, h, rfl⟩

theorem countDownLane_eq (n : LaneIx) (s : State) :
    countDownLane n s = s.setRel n ((s.rel n).ticked (s.lane n).state) := by
  unfold countDownLane Release.ticked
  split
  · rfl
  · split
    · rfl
    · exact (setRel_self s n).symm

theorem countDown_runsOn {countdown : Option Nat} (h : runsOn countdown) : countDown countdown ≠ some 0 := by
  obtain ⟨h0, h1⟩ := h
  cases countdown with
  | none => simp [countDown]
  | some c =>
    simp only [ne_eq, Option.some.injEq, countDown, Option.map_some] at *
    omega

/-- Where no countdown is at its end nothing times out (R137, R148). -/
theorem timeOuts_of_running {n : LaneIx} {s : State} (he : ∀ e ∈ (s.rel n).outstanding, e.countdown ≠ some 0)
    (hc : (s.lane n).state = .clearing → (s.rel n).clearing ≠ some 0) :
    timeOutClearing n (timeOutWithdrawals n s) = s := by
  have hlate : (s.rel n).timedOut = [] := by
    simp only [Release.timedOut, List.filter_eq_nil_iff, beq_iff_eq]
    exact he
  have hw : timeOutWithdrawals n s = s := by simp [timeOutWithdrawals, hlate]
  rw [hw, timeOutClearing, if_neg (fun h => hc h.1 h.2)]

/-- The Release Unit's share, where no countdown of the lane ends with it (R136, R148). -/
theorem shareRelease_of_running {n : LaneIx} {s : State} (h : DeadlinesRun (s.lane n) (s.rel n)) :
    shareRelease [] n s = s.setRel n ((s.rel n).ticked (s.lane n).state) := by
  obtain ⟨he, hc⟩ := h
  change timeOutClearing n (timeOutWithdrawals n (countDownLane n s)) = _
  rw [countDownLane_eq]
  refine timeOuts_of_running ?_ ?_
  · rw [rel_setRel_same]
    intro e hmem
    unfold Release.ticked at hmem
    split at hmem
    · obtain ⟨e0, h0, rfl⟩ := List.mem_map.mp hmem
      exact countDown_runsOn (he e0 h0)
    · split at hmem
      · exact (he e hmem).1
      · exact (he e hmem).1
  · intro hst
    rw [lane_setRel] at hst
    rw [rel_setRel_same, Release.ticked, hst]
    exact countDown_runsOn (hc hst)

/-- A lane's share, where neither its boundary nor its hold limit comes with it (R84, R97). -/
theorem shareLane_of_running {n : LaneIx} {s : State} (howed : (s.lane n).tickOwed = false)
    (hb : (s.lane n).atBoundary = false) (hl : (s.lane n).atHoldLimit = false) :
    shareLane [] n s = s.setLane n (s.lane n).ticked := by
  change laneTick n s = _
  have hl0 : { s.lane n with tickOwed := false } = s.lane n := by rw [← howed]
  unfold laneTick
  rw [hl0]
  dsimp only
  split
  · next a hst hact =>
    have hr : ¬ a.r - 1 = 0 := by
      have : 1 < a.r := by simpa [Lane.atBoundary, hst, hact] using hb
      omega
    simp only [if_neg hr, Lane.ticked, hst, hact]
  · next timer limit hst hact ht hlim =>
    have hr : ¬ limit ≤ timer + 1 := by simpa [Lane.atHoldLimit, hst, ht, hlim] using hl
    simp only [if_neg hr, Lane.ticked, hst, hact, ht, hlim]
  · next hplaying hheld =>
    unfold Lane.ticked
    split
    · next hst hact => exact (hplaying _ hst hact).elim
    · next hst hact ht hlim => exact (hheld _ _ _ hst hact ht hlim).elim
    · rfl

/-! ## The tick before and around the lanes' shares -/

/-- The clock's own steps write the clock, its parameters as they were, and send: the ceiling's evaluation is one of an UNASSURED
clock, which judges nothing (R24, R37, R56). -/
theorem clockTick_quiet (s : State) :
    ∃ c : Clock, c.params = s.clock.params ∧ Quiet (s.setClock c) (clockTick s) := by
  unfold clockTick
  split
  · exact ⟨s.clock, rfl, Quiet.refl s⟩
  · exact ⟨s.clock.advanceT.raiseFloor, rfl, Quiet.refl _⟩
  · exact ⟨s.clock.advanceT.advanceHoldover, rfl, Quiet.refl _⟩
  · dsimp only
    split
    · refine ⟨{ s.clock.advanceT.advanceHoldover with time := .unassured }, rfl, ?_⟩
      simp only [passCeiling, announceTimeState, evaluate, Clock.usable]
      exact raise_quiet _ _
    · exact ⟨s.clock.advanceT.advanceHoldover.raiseFloor, rfl, Quiet.refl _⟩

/-- The framer's share writes the framer and sends. -/
theorem failTick_quiet (s : State) : ∃ f : Framer, Quiet (s.setFramer f) (failTick s) := by
  unfold failTick
  dsimp only
  split
  · exact ⟨_, Quiet.refl _⟩
  · split
    · exact ⟨_, raise_quiet _ _⟩
    · exact ⟨_, Quiet.refl _⟩

theorem clockTick_beside (n : LaneIx) (s : State) : Beside n s (clockTick s) := by
  obtain ⟨c, -, h⟩ := clockTick_quiet s
  exact (clockTick_works s).beside h.lanes h.releases h.keys n

theorem failTick_beside (n : LaneIx) (s : State) : Beside n s (failTick s) := by
  obtain ⟨f, h⟩ := failTick_quiet s
  exact (failTick_works s).1.beside h.lanes h.releases h.keys n

theorem shareRelease_local (apart : List TickPart) (n : LaneIx) (s : State) : Local n s (shareRelease apart n s) := by
  unfold shareRelease
  dsimp only
  split
  · exact countDownLane_local n s
  · exact ((countDownLane_local n s).trans (timeOutWithdrawals_local n _)).trans (timeOutClearing_local n _)

theorem shareLane_local (apart : List TickPart) (n : LaneIx) (s : State) : Local n s (shareLane apart n s) := by
  unfold shareLane
  split
  · exact setLane_local _ _ _
  · exact laneTick_local n s

theorem takeOwedLane_sends (n : LaneIx) (s : State) : Sends s (takeOwedLane n s) := by
  unfold takeOwedLane
  split
  · exact laneTick_sends n s
  · exact Sends.refl s

theorem takeOwedLane_local (n : LaneIx) (s : State) : Local n s (takeOwedLane n s) := by
  unfold takeOwedLane
  split
  · exact laneTick_local n s
  · exact Local.refl n s

theorem timeOuts_sends (n : LaneIx) (s : State) : Sends s (timeOutClearing n (timeOutWithdrawals n s)) :=
  (timeOutWithdrawals_sends n s).trans (timeOutClearing_sends n _)

theorem timeOuts_local (n : LaneIx) (s : State) : Local n s (timeOutClearing n (timeOutWithdrawals n s)) :=
  (timeOutWithdrawals_local n s).trans (timeOutClearing_local n _)

/-- The shares still owed are none of a lane's that owes none. -/
theorem settleTick_beside {n : LaneIx} {s : State} (howed : (s.lane n).tickOwed = false)
    (h : DeadlinesRun (s.lane n) (s.rel n)) : Beside n s (settleTick s) := by
  obtain ⟨he, hc⟩ := h
  unfold settleTick
  split
  · dsimp only
    have h1 : Beside n s (if s.framer.tickOwed then failTick s else s) := by
      split
      · exact failTick_beside n s
      · exact Beside.refl n s
    generalize (if s.framer.tickOwed then failTick s else s) = s1 at h1 ⊢
    have h2 : Beside n s1 (s1.forLanes fun n s => timeOutClearing n (timeOutWithdrawals n s)) :=
      forLanes_beside (fun m hm u => (timeOuts_local m u).beside (timeOuts_sends m u).works hm) fun u hu => by
        have hsu := h1.trans hu
        refine timeOuts_of_running ?_ ?_
        · rw [hsu.rel]; exact fun e hmem => (he e hmem).1
        · rw [hsu.rel, hsu.lane]; exact fun hst => (hc hst).1
    generalize s1.forLanes (fun n s => timeOutClearing n (timeOutWithdrawals n s)) = s2 at h2 ⊢
    have h12 := h1.trans h2
    refine h12.trans (forLanes_beside (fun m hm u => (takeOwedLane_local m u).beside (takeOwedLane_sends m u).works hm) ?_)
    intro u hu
    rw [takeOwedLane, (h12.trans hu).lane, howed, if_neg Bool.false_ne_true]
  · exact Beside.refl n s

/-- A port's share writes the port and sends. -/
theorem portTick_quiet (n : LaneIx) (s : State) : ∃ p : ScreenPort, Quiet (s.setPort n p) (portTick n s) := by
  unfold portTick
  split
  · dsimp only
    split
    · exact ⟨_, by rw [recover, setPort_setPort]; exact raise_quiet _ _⟩
    · split
      · exact ⟨_, by rw [degrade, setPort_setPort]; exact raise_quiet _ _⟩
      · exact ⟨_, Quiet.refl _⟩
  · exact ⟨s.port n, by rw [setPort_self]; exact Quiet.refl s⟩

theorem portTick_beside (n m : LaneIx) (s : State) : Beside n s (portTick m s) := by
  obtain ⟨p, h⟩ := portTick_quiet m s
  exact (portTick_works m s).1.beside h.lanes h.releases h.keys n

theorem portTick_framer (n : LaneIx) (s : State) : (portTick n s).framer = s.framer := by
  obtain ⟨p, h⟩ := portTick_quiet n s
  exact h.framer

/-! ## The framer's and a port's share (R19, R162, R167) -/

/-- The framer's share of a tick of a part at work (R19). -/
theorem failTick_reaches {s : State} (hr : s.running = true) : s.tickAtFramer (failTick s) := by
  unfold failTick
  dsimp only
  split
  · next hal =>
    refine ⟨by simp [hal], by simp [hal], fun h0 h1 => ?_⟩
    simp [h0] at h1
  · next hal =>
    split
    · next hdue =>
      rw [Bool.and_eq_true, Bool.not_eq_true'] at hdue
      obtain ⟨hoff, hdue⟩ := hdue
      exact ⟨by simp [hal], by simp [hal, of_decide_eq_true hdue], fun _ _ => raise_sticky _ _ hr⟩
    · next hdue =>
      refine ⟨by simp [hal], ?_, fun h0 h1 => ?_⟩
      · cases halarm : s.framer.alarm with
        | true => simp
        | false => simpa [halarm, hal] using hdue
      · simp [h0] at h1

/-- A fitted port one tick on, before its degrade flag is tested (R162, R167). -/
def ScreenPort.ticked (p : ScreenPort) (dt : Nat) : ScreenPort :=
  { p with slices := (0 :: p.slices).take 8, dtInForce := dt, state := p.state.spaced }

theorem portTick_of_fitted {n : LaneIx} {s : State} (hf : s.isFitted n = true) :
    portTick n s =
      let p := (s.port n).ticked (s.lane n).dt
      if p.underHalf then (s.setPort n { p with degraded := false }).raise (.portRecovered n p.windowSum p.dtInForce)
      else if p.overThreshold then (s.setPort n { p with degraded := true }).raise (.portDegraded n p.windowSum p.dtInForce)
      else s.setPort n p := by
  simp only [portTick, hf, if_true, port_setPort_same, recover, degrade, setPort_setPort]
  rfl

/-- A fitted port's share of a tick of a part at work (R162, R167). -/
theorem portTick_reaches {n : LaneIx} {s : State} (hr : s.running = true) (hf : s.isFitted n = true) :
    s.tickAtPort (portTick n s) n := by
  rw [portTick_of_fitted hf]
  unfold State.tickAtPort
  dsimp only
  generalize hp : (s.port n).ticked (s.lane n).dt = p
  have hslices : p.slices = (0 :: (s.port n).slices).take 8 := by rw [← hp]; rfl
  have hdt : p.dtInForce = (s.lane n).dt := by rw [← hp]; rfl
  have hstate : p.state = (s.port n).state.spaced := by rw [← hp]; rfl
  have hdeg : p.degraded = (s.port n).degraded := by rw [← hp]; rfl
  rw [← hslices, ← hdt, ← hstate, ← hdeg]
  cases hd : p.degraded with
  | true =>
    by_cases hsum : p.windowSum ≤ p.dtInForce / 2
    · rw [if_pos (by simp [ScreenPort.underHalf, hd, hsum])]
      simp only [port_raise, port_setPort_same, true_and]
      exact ⟨by simpa [ScreenPort.windowSum] using hsum, fun _ _ => raise_sticky _ _ hr, fun h => by simp at h⟩
    · rw [if_neg (by simp [ScreenPort.underHalf, hsum]), if_neg (by simp [ScreenPort.overThreshold, hd])]
      simp only [port_setPort_same, true_and]
      refine ⟨?_, fun _ h => ?_, fun h => by simp at h⟩
      · simpa [ScreenPort.windowSum, hd] using hsum
      · simp [hd] at h
  | false =>
    rw [if_neg (by simp [ScreenPort.underHalf, hd])]
    by_cases hsum : p.dtInForce ≤ p.windowSum
    · rw [if_pos (by simp [ScreenPort.overThreshold, hd, hsum])]
      simp only [port_raise, port_setPort_same, true_and]
      exact ⟨by simpa [ScreenPort.windowSum] using hsum, fun h => by simp at h, fun _ _ => raise_sticky _ _ hr⟩
    · rw [if_neg (by simp [ScreenPort.overThreshold, hsum])]
      simp only [port_setPort_same, true_and]
      refine ⟨?_, fun h => by simp at h, fun _ h => ?_⟩
      · simpa [ScreenPort.windowSum, hd] using hsum
      · simp [hd] at h

/-- Port n stays but for its link, with the settings and the sticky flags that are set. -/
structure PortKept (n : LaneIx) (s t : State) : Prop extends Works s t where
  slices : (t.port n).slices = (s.port n).slices
  dtInForce : (t.port n).dtInForce = (s.port n).dtInForce
  degraded : (t.port n).degraded = (s.port n).degraded
  state : (t.port n).state = (s.port n).state

theorem PortKept.refl (n : LaneIx) (s : State) : PortKept n s s := ⟨Works.refl s, rfl, rfl, rfl, rfl⟩

theorem PortKept.trans {n : LaneIx} {s t u : State} (h : PortKept n s t) (k : PortKept n t u) : PortKept n s u :=
  ⟨h.toWorks.trans k.toWorks, k.slices.trans h.slices, k.dtInForce.trans h.dtInForce, k.degraded.trans h.degraded,
    k.state.trans h.state⟩

/-- Work that only sends, and binds and unbinds nothing. -/
theorem Sends.portKept {n : LaneIx} {s t : State} (h : Sends s t) (hst : (t.port n).state = (s.port n).state) :
    PortKept n s t := ⟨h.works, h.slices n, h.dtInForce n, h.degraded n, hst⟩

theorem portTick_keeps_other {n m : LaneIx} (hm : m ≠ n) (s : State) : PortKept n s (portTick m s) := by
  obtain ⟨p, h⟩ := portTick_quiet m s
  have hp := port_setPort_other s p hm.symm
  exact ⟨(portTick_works m s).1, hp ▸ h.slices n, hp ▸ h.dtInForce n, hp ▸ h.degraded n, hp ▸ h.portState n⟩

/-- The tick's share of port n, with everything else of the tick around it. -/
theorem PortKept.tickAtPort {n : LaneIx} {s u v t : State} (before : PortKept n s u) (share : u.tickAtPort v n)
    (after : PortKept n v t) : s.tickAtPort t n := by
  obtain ⟨hslices, hdt, hstate, hdeg, hrec, hdegr⟩ := share
  simp only [before.slices, before.degraded, before.state, before.lane_dt] at hslices hdt hstate hdeg hrec hdegr
  refine ⟨after.slices.trans hslices, after.dtInForce.trans hdt, after.state.trans hstate, after.degraded.trans hdeg, ?_, ?_⟩
  · exact fun h0 h1 => after.sticky _ (hrec h0 (after.degraded.symm.trans h1))
  · exact fun h0 h1 => after.sticky _ (hdegr h0 (after.degraded.symm.trans h1))

/-! ## The whole tick (R24, step 4) -/

/-- The state of a part at work when the shares of a tick are handed out: what the tick before still owed is taken, and the clock has
made its own steps. -/
def State.tickBegun (s : State) : State := clockTick (settleTick s)

/-- The state of a part at work after the lanes' shares of a tick, before the ports'. -/
def State.lanesTicked (s : State) : State := ((failTick s.tickBegun).forLanes (shareRelease [])).forLanes (shareLane [])

theorem tickBegun_works (s : State) : Works s s.tickBegun := (settleTick_works s).1.trans (clockTick_works _)

theorem lanesTicked_sends (s : State) : Sends (failTick s.tickBegun) s.lanesTicked :=
  (forLanes_sends _ (shareRelease_sends []) _).trans (forLanes_sends _ (shareLane_sends []) _)

theorem lanesTicked_works (s : State) : Works s s.lanesTicked :=
  ((tickBegun_works s).trans (failTick_works _).1).trans (lanesTicked_sends s).works

/-- The tick of a part at work, with no share apart (R24). -/
theorem tick_of_running {s : State} (hr : s.running = true) : tick [] s = evaluate (s.lanesTicked.forLanes portTick) := by
  change handOn [] s.tickBegun = _
  rw [handOn, if_pos ((tickBegun_works s).running_eq.trans hr)]
  rfl

/-- What the shares still owed do where the framer owes none: they send. -/
theorem settleTick_sends {s : State} (howed : s.framer.tickOwed = false) : Sends s (settleTick s) := by
  unfold settleTick
  split
  · rw [howed, if_neg Bool.false_ne_true]
    exact (forLanes_sends _ timeOuts_sends s).trans (forLanes_sends _ takeOwedLane_sends _)
  · exact Sends.refl s

theorem forLanes_portTick_framer (s : State) : (s.forLanes portTick).framer = s.framer := by
  obtain ⟨u, before, after⟩ := forLanes_through 0 (fun s t => t.framer = s.framer) (fun _ => rfl)
    (fun h k => k.trans h) (fun m _ => portTick_framer m) s
  exact after.trans ((portTick_framer 0 u).trans before)

/-- The tick at the framer (R19). -/
theorem tick_reaches_framer {s : State} (hr : s.running = true) (howed : s.framer.tickOwed = false) :
    s.tickAtFramer (tick [] s) := by
  rw [tick_of_running hr]
  obtain ⟨c, hparams, hquiet⟩ := clockTick_quiet (settleTick s)
  have hframer : s.tickBegun.framer = s.framer := hquiet.framer.trans (settleTick_sends howed).framer
  have hclock : s.tickBegun.clock.params = s.clock.params :=
    (congrArg Clock.params hquiet.clock).trans (hparams.trans (congrArg Clock.params (settleTick_works s).2))
  obtain ⟨htimer, halarm, hevent⟩ := failTick_reaches ((tickBegun_works s).running_eq.trans hr)
  have hafter : (evaluate (s.lanesTicked.forLanes portTick)).framer = (failTick s.tickBegun).framer :=
    ((evaluate_sends _).framer.trans (forLanes_portTick_framer _)).trans (lanesTicked_sends s).framer
  have hsticky := (((lanesTicked_sends s).works.trans (forLanes_works _ (fun n s => (portTick_works n s).1) _)).trans
    (evaluate_sends _).works).sticky
  rw [hframer] at htimer halarm hevent
  rw [hclock] at halarm
  unfold State.tickAtFramer
  rw [hafter]
  exact ⟨htimer, halarm, fun h0 h1 => hsticky _ (hevent h0 h1)⟩

theorem failTick_keeps_port (n : LaneIx) (s : State) : PortKept n s (failTick s) := by
  obtain ⟨f, h⟩ := failTick_quiet s
  exact ⟨(failTick_works s).1, h.slices n, h.dtInForce n, h.degraded n, h.portState n⟩

theorem clockTick_keeps_port (n : LaneIx) (s : State) : PortKept n s (clockTick s) := by
  obtain ⟨c, -, h⟩ := clockTick_quiet s
  exact ⟨clockTick_works s, h.slices n, h.dtInForce n, h.degraded n, h.portState n⟩

/-- An operation on each of the lanes that only sends, and binds and unbinds nothing. -/
theorem forLanes_keeps_port {f : LaneIx → State → State} {n : LaneIx} (h : ∀ m s, Sends s (f m s))
    (hst : ∀ m s, ((f m s).port n).state = (s.port n).state) (s : State) : PortKept n s (s.forLanes f) :=
  (forLanes_sends f h s).portKept (portState_forLanes hst s)

theorem settleTick_keeps_port (n : LaneIx) (s : State) : PortKept n s (settleTick s) := by
  unfold settleTick
  split
  · have howed : PortKept n s (if s.framer.tickOwed then failTick s else s) := by
      split
      · exact failTick_keeps_port n s
      · exact PortKept.refl n s
    refine (howed.trans (forLanes_keeps_port timeOuts_sends (fun m u => by simp) _)).trans
      (forLanes_keeps_port takeOwedLane_sends (fun m u => ?_) _)
    unfold takeOwedLane
    split <;> simp
  · exact PortKept.refl n s

/-- Nothing of a tick before the ports' shares reaches a port (R162, R167). -/
theorem lanesTicked_keeps_port (n : LaneIx) (s : State) : PortKept n s s.lanesTicked := by
  have h0 : PortKept n s (failTick s.tickBegun) :=
    ((settleTick_keeps_port n s).trans (clockTick_keeps_port n _)).trans (failTick_keeps_port n _)
  have hrelease : ∀ m u, ((shareRelease [] m u).port n).state = (u.port n).state := by simp [shareRelease]
  have hlane : ∀ m u, ((shareLane [] m u).port n).state = (u.port n).state := by simp [shareLane]
  exact (h0.trans (forLanes_keeps_port (shareRelease_sends []) hrelease _)).trans
    (forLanes_keeps_port (shareLane_sends []) hlane _)

/-- The tick at a fitted port (R162, R167). -/
theorem tick_reaches_port {n : LaneIx} {s : State} (hr : s.running = true) (hf : s.isFitted n = true) :
    s.tickAtPort (tick [] s) n := by
  rw [tick_of_running hr]
  obtain ⟨u, before, after⟩ := forLanes_through n (PortKept n) (PortKept.refl n) PortKept.trans
    (fun m hm => portTick_keeps_other hm) s.lanesTicked
  have hu := (lanesTicked_keeps_port n s).trans before
  exact hu.tickAtPort (portTick_reaches (hu.running_eq.trans hr) ((hu.isFitted_eq n).trans hf))
    (after.trans ((evaluate_sends _).portKept (portState_evaluate n _)))

/-- The lanes' shares of a tick at a lane that owes none and none of whose countdowns ends with it. -/
theorem lanesTicked_lane {n : LaneIx} {s : State} (howed : (s.lane n).tickOwed = false)
    (hd : DeadlinesRun (s.lane n) (s.rel n)) (hb : (s.lane n).atBoundary = false) (hl : (s.lane n).atHoldLimit = false) :
    s.lanesTicked.lane n = (s.lane n).ticked ∧ s.lanesTicked.rel n = (s.rel n).ticked (s.lane n).state
      ∧ ∀ c slot, s.lanesTicked.expiresAt c slot ↔ s.expiresAt c slot := by
  have h0 : Beside n s (failTick s.tickBegun) :=
    ((settleTick_beside howed hd).trans (clockTick_beside n _)).trans (failTick_beside n _)
  obtain ⟨u, hu, h1⟩ := forLanes_through n (Beside n) (Beside.refl n) Beside.trans
    (fun m hm s => (shareRelease_local [] m s).beside (shareRelease_sends [] m s).works hm) (failTick s.tickBegun)
  obtain ⟨v, hv, h2⟩ := forLanes_through n (Beside n) (Beside.refl n) Beside.trans
    (fun m hm s => (shareLane_local [] m s).beside (shareLane_sends [] m s).works hm)
    ((failTick s.tickBegun).forLanes (shareRelease []))
  have hsu := h0.trans hu
  have huv := h1.trans hv
  rw [shareRelease_of_running (by rw [hsu.lane, hsu.rel]; exact hd)] at huv
  have hlane : v.lane n = s.lane n := huv.lane.trans hsu.lane
  have hrel : v.rel n = (s.rel n).ticked (s.lane n).state := by rw [huv.rel, rel_setRel_same, hsu.lane, hsu.rel]
  rw [shareLane_of_running (by rw [hlane]; exact howed) (by rw [hlane]; exact hb) (by rw [hlane]; exact hl)] at h2
  refine ⟨?_, ?_, fun c slot => ?_⟩
  · rw [State.lanesTicked, h2.lane, lane_setLane_same, hlane]
  · exact h2.rel.trans hrel
  · exact (h2.expiresAt_iff c slot).trans ((huv.expiresAt_iff c slot).trans (hsu.expiresAt_iff c slot))

/-- The tick at a lane that owes none and none of whose countdowns ends with it, unless its evaluation expires the active reel's key
(R84, R97, R99, R136, R148). -/
theorem tick_lane {n : LaneIx} {s : State} (hr : s.running = true) (howed : (s.lane n).tickOwed = false)
    (hd : DeadlinesRun (s.lane n) (s.rel n)) (hb : (s.lane n).atBoundary = false) (hl : (s.lane n).atHoldLimit = false)
    (hk : ∀ a, (s.lane n).state.running = true → (s.lane n).active = some a → ¬ s.expiresAt (tick [] s).clock a.slot) :
    (tick [] s).lane n = (s.lane n).ticked ∧ (tick [] s).rel n = (s.rel n).ticked (s.lane n).state := by
  obtain ⟨hlane, hrel, hexpires⟩ := lanesTicked_lane howed hd hb hl
  have hports : Beside n s.lanesTicked (s.lanesTicked.forLanes portTick) := by
    obtain ⟨u, before, after⟩ := forLanes_through n (Beside n) (Beside.refl n) Beside.trans
      (fun m _ => portTick_beside n m) s.lanesTicked
    exact (before.trans (portTick_beside n n u)).trans after
  rw [tick_of_running hr] at hk ⊢
  obtain ⟨elane, erel⟩ := evaluate_lane n (s.lanesTicked.forLanes portTick) (by
    intro a hrun hact hexp
    rw [hports.lane, hlane] at hrun hact
    rw [Lane.ticked_state] at hrun
    obtain ⟨a0, hact0, hslot⟩ := Lane.slot_of_ticked hact
    refine hk a0 hrun hact0 ?_
    rw [(evaluate_sends _).clock, hslot]
    exact (hexpires _ _).mp ((hports.expiresAt_iff _ _).mp hexp))
  exact ⟨elane.trans (hports.lane.trans hlane), erel.trans (hports.rel.trans hrel)⟩

/-- The tick at a lane without a show (R136, R148). -/
theorem tick_lane_of_rest {n : LaneIx} {s : State} (hr : s.running = true) (howed : (s.lane n).tickOwed = false)
    (hd : DeadlinesRun (s.lane n) (s.rel n)) (hrest : (s.lane n).state.running = false) :
    (tick [] s).lane n = s.lane n ∧ (tick [] s).rel n = (s.rel n).ticked (s.lane n).state := by
  have hstate : (s.lane n).state ≠ .playing ∧ (s.lane n).state ≠ .held := by simpa [LaneState.running] using hrest
  obtain ⟨hplaying, hheld⟩ := hstate
  have hsame : (s.lane n).ticked = s.lane n := by
    unfold Lane.ticked
    split
    · next hst _ => exact absurd hst hplaying
    · next hst _ _ _ => exact absurd hst hheld
    · rfl
  have h := tick_lane hr howed hd (by simp [Lane.atBoundary, hplaying]) (by simp [Lane.atHoldLimit, hheld])
    (fun a hrun => by simp [hrest] at hrun)
  rwa [hsame] at h

/-- The tick at a lane, by the lane's state (R84, R97, R136, R148). -/
theorem tick_reaches_lane {n : LaneIx} {s : State} (hr : s.running = true) (howed : (s.lane n).tickOwed = false) :
    s.tickAtLane (tick [] s) n := by
  intro he
  have one {a a' : ActiveReel} {c : Clock} (hact : (s.lane n).active = some a) (hk : ¬ s.expiresAt c a.slot)
      (hact' : (s.lane n).active = some a') : ¬ s.expiresAt c a'.slot := by
    rwa [← Option.some.inj (hact.symm.trans hact')]
  refine ⟨fun a hst hact hr1 hk => ?playing, fun a timer limit hst hact htimer hlimit hlt hk => ?held, fun hst => ?idle,
    fun hst hc => ?clearing, fun hst => ?rest⟩
  case playing =>
    have h := tick_lane hr howed ⟨he, by simp [hst]⟩ (by simpa [Lane.atBoundary, hst, hact] using hr1)
      (by simp [Lane.atHoldLimit, hst]) (fun _ _ => one hact hk)
    simpa [Lane.ticked, Release.ticked, LaneState.inService, LaneState.running, countDown, hst, hact] using h
  case held =>
    have h := tick_lane hr howed ⟨he, by simp [hst]⟩ (by simp [Lane.atBoundary, hst])
      (by simpa [Lane.atHoldLimit, hst, htimer, hlimit] using hlt) (fun _ _ => one hact hk)
    simpa [Lane.ticked, Release.ticked, LaneState.inService, LaneState.running, countDown, hst, hact, htimer, hlimit] using h
  case idle =>
    have h := tick_lane_of_rest hr howed ⟨he, by simp [hst]⟩ (by simp [LaneState.running, hst])
    simpa [Release.ticked, LaneState.inService, countDown, hst] using h
  case clearing =>
    have h := tick_lane_of_rest hr howed ⟨he, fun _ => hc⟩ (by simp [LaneState.running, hst])
    simpa [Release.ticked, LaneState.inService, LaneState.running, countDown, hst] using h
  case rest =>
    rcases hst with hst | hst
    all_goals
      have h := tick_lane_of_rest hr howed ⟨he, by simp [hst]⟩ (by simp [LaneState.running, hst])
      simpa [Release.ticked, LaneState.inService, LaneState.running, hst] using h

/-- An elapsed tick of a part at work reaches its receivers (R24). -/
theorem tick_reaches {s : State} (hr : s.running = true) : s.tickReaches (tick [] s) :=
  ⟨(tick_works [] s).settings, tick_reaches_framer hr, fun _ => tick_reaches_port hr, fun _ => tick_reaches_lane hr⟩

/-- A tick that starts from the state with its framer and its clock written, in nothing that a receiver reads, reaches the
receivers of the state. -/
theorem tick_reaches_from {s s0 : State} (hr : s.running = true) (f : Framer) {c : Clock} (h0 : s0 = (s.setFramer f).setClock c)
    (hstate : f.state = s.framer.state) (htimer : f.failTimer = s.framer.failTimer) (halarm : f.alarm = s.framer.alarm)
    (howed : f.tickOwed = s.framer.tickOwed) (hparams : c.params = s.clock.params) : s.tickReaches (tick [] s0) := by
  have hr0 : s0.running = true := by rw [h0]; exact hr
  have h := tick_reaches hr0
  generalize tick [] s0 = t at h ⊢
  subst h0
  obtain ⟨hsettings, hframer, hports, hlanes⟩ := h
  refine ⟨hsettings, fun hnone => ?_, hports, hlanes⟩
  simpa only [State.tickAtFramer, setClock_framer, setFramer_framer, setClock_clock, hstate, htimer, halarm, hparams] using
    hframer (howed.trans hnone)

/-- Settles O28: the oscillator's boundary outside ASSURED and the start mark in ASSURED are the same tick, begun from states that
differ from the given one in nothing a receiver reads. -/
theorem elapsedTickReachesItsReceivers : Obligations.ElapsedTickReachesItsReceivers := by
  refine ⟨fun s hr hoscillator => ?_, fun s hr hassured haligned hfresh hperiod => ?_⟩
  · have hretained : s.retained = true := by
      rw [State.running, Bool.and_eq_true] at hr
      rw [State.retained, hr.1, Bool.true_or]
    refine ⟨tick [] (passBoundary s), ?_, tick_reaches_from hr s.framer rfl rfl rfl rfl rfl rfl⟩
    simp [exec, execElapsedTick, oscillatorTick, hretained, hoscillator]
  · refine ⟨tick [] (restartOscillator (s.setFramer { s.framer with
        kTaken := s.clock.params.k, eTaken := s.clock.params.e, checkLossTaken := s.clock.params.checkLoss, fresh := false })),
      ?_, tick_reaches_from hr _ rfl rfl rfl rfl rfl rfl⟩
    simp [exec, execSuperframeStart, superframeStart, Framer.startDue, hr, hassured, haligned, hfresh, hperiod]

end Sys2Proof.Machine
end

section
/-! PROOFS. PURGE KEY row by row: its three refusals, and the slot made EMPTY (R65). -/

namespace Sys2Proof.Machine

/-! ## A slot made EMPTY -/

/-- The state with a slot of the Key Table made EMPTY. -/
def State.emptySlot (s : State) (slot : Nat) : State := { s with keys := removeKey slot s.keys }

@[simp] theorem key_emptySlot_same (s : State) (slot : Nat) : (s.emptySlot slot).key slot = none :=
  lookupKey_removeKey_same slot s.keys

theorem key_emptySlot_other (s : State) {slot other : Nat} (h : other ≠ slot) :
    (s.emptySlot slot).key other = s.key other := lookupKey_removeKey_other s.keys h

theorem emptySlot_holding (s : State) (slot : Nat) (p : PortId) :
    (s.holding p).emptySlot slot = (s.emptySlot slot).holding p := rfl

/-- Which lanes hold a slot does not depend on the place kept. -/
@[simp] theorem holderCount_holding (s : State) (p : PortId) (slot : Nat) :
    (s.holding p).holderCount slot = s.holderCount slot := rfl

@[simp] theorem holderMap_holding (s : State) (p : PortId) (slot : Nat) :
    (s.holding p).holderMap slot = s.holderMap slot := rfl

/-! ## The rows of R65 -/

theorem purgeKey_of_out_of_range {slot : Nat} (kind : Byte) (s : State) (h : 512 ≤ slot) :
    purgeKey slot kind s = (s, .plain kind .badField) := by
  simp [purgeKey, slotInRange, h]

theorem purgeKey_of_empty {slot : Nat} (kind : Byte) {s : State} (hslot : slot < 512) (hkey : s.key slot = none) :
    purgeKey slot kind s = (s, .plain kind .slotEmpty) := by
  simp [purgeKey, slotInRange, hslot, hkey]

theorem purgeKey_of_held {slot : Nat} (kind : Byte) {s : State} {k : Key} (hslot : slot < 512) (hkey : s.key slot = some k)
    (hheld : 0 < s.holderCount slot) : purgeKey slot kind s = (s, .purgeHeld (s.holderMap slot)) := by
  simp [purgeKey, slotInRange, hslot, hkey, hheld]

theorem purgeKey_of_unheld {slot : Nat} (kind : Byte) {s : State} {k : Key} (hslot : slot < 512) (hkey : s.key slot = some k)
    (hfree : s.holderCount slot = 0) :
    purgeKey slot kind s =
      ((s.emptySlot slot).raise (.keyState slot (some k.state) none .purged), .purgeKey k.state k.openings) := by
  simp [purgeKey, slotInRange, hslot, hkey, hfree, State.emptySlot]

/-! ## The request on the management port -/

/-- PURGE KEY on a management port that takes at once is answered by the Key Table (R65, R165). -/
theorem exec_purgeKey_of_ready {s : State} (h : s.ready .mgmt) (tag : Byte) (slot : BitVec 16) :
    exec (.purgeKey .mgmt tag slot) s = .next (replyOn .mgmt tag (purgeKey slot.toNat 0x12 (s.holding .mgmt))) :=
  exec_of_ready .mgmt tag (.purgeKey slot) s h

/-- An answer whose event finds two places free on the management list: the place kept for the reply does not show, and the reply
goes out after the event's notice (R163, R171). -/
theorem replyOn_raise (tag : Byte) (s : State) (e : Event) (r : Reply) (hkept : s.kept = none)
    (hroom : s.mgmt.tx.length + 1 < 32) :
    replyOn .mgmt tag ((s.holding .mgmt).raise e, r) = (s.raise e).place .mgmt (.reply tag r) := by
  rw [raise_holding s .mgmt e hroom]
  exact replyOn_same .mgmt tag (s.raise e) r ((raise_kept s e).trans hkept)

/-- Settles O31, one row of R65 after the other. -/
theorem purgeKeyEmptiesTheSlot : Obligations.PurgeKeyEmptiesTheSlot := by
  intro tag slot s hready
  rw [exec_purgeKey_of_ready hready]
  obtain ⟨-, -, hplaces, hkept⟩ := hready
  refine ⟨fun hrange => ?range, fun hslot hkey => ?empty, fun k hslot hkey hheld => ?held, fun k hslot hkey hfree => ?purged⟩
  case range => rw [purgeKey_of_out_of_range _ _ hrange, replyOn_same _ _ _ _ hkept]
  case empty => rw [purgeKey_of_empty _ hslot (by simpa using hkey), replyOn_same _ _ _ _ hkept]
  case held =>
    rw [purgeKey_of_held _ hslot (by simpa using hkey) (by simpa using hheld), replyOn_same _ _ _ _ hkept, holderMap_holding]
  case purged =>
    have hroom : s.mgmt.tx.length + 1 < 32 := by
      simp only [State.link, Config.takePlaces, Config.txPlaces] at hplaces
      omega
    refine ⟨s.emptySlot slot.toNat, ?_, rfl, key_emptySlot_same s _, fun other hother => key_emptySlot_other s hother⟩
    rw [purgeKey_of_unheld _ hslot (by simpa using hkey) (by simpa using hfree), emptySlot_holding,
      replyOn_raise tag (s.emptySlot slot.toNat) _ _ hkept hroom]

end Sys2Proof.Machine
end

section
/-! PROOFS. VOID HOLDINGS: its two refusals, and the write-off of a lane where no trusted screen is bound (R150). -/

namespace Sys2Proof.Machine

/-! ## The states in which a lane's holdings may be written off -/

theorem LaneState.voidable_iff (l : LaneState) : l.voidable = true ↔ l = .quarantine ∨ l = .clearing ∨ l = .offline := by
  cases l <;> simp [LaneState.voidable]

theorem LaneState.not_voidable_iff (l : LaneState) : l.voidable = false ↔ l = .idle ∨ l = .playing ∨ l = .held := by
  cases l <;> simp [LaneState.voidable]

/-! ## The rows of R150 -/

/-- No lane is named above 15. -/
theorem laneOf_of_out_of_range {lane : Byte} (h : 15 < lane.toNat) : laneOf lane = none :=
  dif_neg (by omega)

theorem voidHoldings_of_no_lane {lane : Byte} (s : State) (h : laneOf lane = none) :
    voidHoldings lane s = (s, .plain 0x1B .badField) := by
  simp only [voidHoldings, h, Request.kind]

theorem voidHoldings_of_voidable {lane : Byte} {n : LaneIx} {s : State} (h : laneOf lane = some n)
    (hstate : (s.lane n).state.voidable = true) (hscreen : (s.port n).boundScreen = false) :
    voidHoldings lane s =
      (writeOff n s, .voidHoldings (s.rel n).holdings ((s.rel n).outstanding.map (fun e => e.serial))) := by
  simp only [voidHoldings, h, hstate, hscreen, and_self, if_true]

/-- A lane in service or under a trusted screen is not written off. -/
theorem voidHoldings_of_refused {lane : Byte} {n : LaneIx} {s : State} (h : laneOf lane = some n)
    (hno : (s.lane n).state.voidable = false ∨ (s.port n).boundScreen = true) :
    voidHoldings lane s = (s, .laneRefused 0x1B .wrongState (s.lane n).state (s.port n).view) := by
  have hguard : ¬ ((s.lane n).state.voidable = true ∧ (s.port n).boundScreen = false) := by
    rintro ⟨hstate, hscreen⟩
    rcases hno with hno | hno
    · exact absurd (hstate.symm.trans hno) (by decide)
    · exact absurd (hno.symm.trans hscreen) (by decide)
  simp only [voidHoldings, h, if_neg hguard, refuseAtLane, Request.kind]

/-! ## The write-off and the place kept for the reply -/

/-- The write-off places nothing, so the place kept for the reply does not show in it. -/
theorem writeOff_holding (n : LaneIx) (s : State) (p : PortId) :
    writeOff n (s.holding p) = (writeOff n s).holding p := rfl

@[simp] theorem writeOff_kept (n : LaneIx) (s : State) : (writeOff n s).kept = s.kept := rfl

/-- The write-off as the release record and the lane state it writes, both read from the state before it. -/
theorem writeOff_eq (n : LaneIx) (s : State) :
    writeOff n s = (s.setRel n { s.rel n with
        outstanding := [], holdings := [], clearRequired := false, clearing := none }).setLane n
      { s.lane n with state := .offline } := rfl

/-! ## The request on the management port -/

/-- VOID HOLDINGS on a management port that takes at once is answered by the write-off's rule (R150, R165). -/
theorem exec_voidHoldings_of_ready {s : State} (h : s.ready .mgmt) (tag lane : Byte) :
    exec (.voidHoldings .mgmt tag lane) s = .next (replyOn .mgmt tag (voidHoldings lane (s.holding .mgmt))) :=
  exec_of_ready .mgmt tag (.voidHoldings lane) s h

/-- Settles O47, by the three rows of R150: no such lane, the write-off, and the refusal. -/
theorem voidHoldingsWritesOff : Obligations.VoidHoldingsWritesOff := by
  intro tag lane s hready
  rw [exec_voidHoldings_of_ready hready]
  obtain ⟨-, -, -, hkept⟩ := hready
  refine ⟨fun hrange => ?range, fun n hlane hstate hscreen => ?taken, fun n hlane hno => ?refused⟩
  case range => rw [voidHoldings_of_no_lane _ (laneOf_of_out_of_range hrange), replyOn_same _ _ _ _ hkept]
  case taken =>
    have hvoidable : ((s.holding .mgmt).lane n).state.voidable = true := (LaneState.voidable_iff _).mpr hstate
    rw [voidHoldings_of_voidable hlane hvoidable hscreen, writeOff_holding,
      replyOn_same _ _ _ _ ((writeOff_kept n s).trans hkept), rel_holding, writeOff_eq]
  case refused =>
    have hrefused : ((s.holding .mgmt).lane n).state.voidable = false ∨ ((s.holding .mgmt).port n).boundScreen = true := by
      rw [LaneState.not_voidable_iff]
      simpa only [lane_holding, port_holding, or_assoc] using hno
    rw [voidHoldings_of_refused hlane hrefused, replyOn_same _ _ _ _ hkept, lane_holding, port_holding]

end Sys2Proof.Machine
end

section
/-! PROOFS. CLEAR COUNTERS: the counters of R178 at 0, and the rest as it was. -/

namespace Sys2Proof.Machine

/-! ## The counters at 0 -/

/-- The place kept for the reply does not show in the counters' zeroing. -/
theorem zeroCounters_holding (s : State) (p : PortId) : zeroCounters (s.holding p) = (zeroCounters s).holding p := rfl

@[simp] theorem zeroCounters_kept (s : State) : (zeroCounters s).kept = s.kept := rfl

theorem port_zeroCounters (s : State) (n : LaneIx) :
    (zeroCounters s).port n = { s.port n with link := (s.port n).link.zeroed } := get_map _ _ n

theorem lane_zeroCounters (s : State) (n : LaneIx) : (zeroCounters s).lane n = (s.lane n).zeroed := get_map _ _ n

/-! ## The request on the management port -/

/-- CLEAR COUNTERS on a management port that takes at once zeroes the counters, and then the reply goes out (R165, R171, R178). -/
theorem exec_clearCounters_of_ready {s : State} (h : s.ready .mgmt) (tag : Byte) :
    exec (.clearCounters .mgmt tag) s = .next ((zeroCounters s).place .mgmt (.reply tag (.plain 0x1F .accepted))) := by
  have harrive : exec (.clearCounters .mgmt tag) s =
      .next (replyOn .mgmt tag (zeroCounters (s.holding .mgmt), .plain 0x1F .accepted)) :=
    exec_of_ready .mgmt tag .clearCounters s h
  obtain ⟨-, -, -, hkept⟩ := h
  rw [harrive, zeroCounters_holding, replyOn_same _ _ _ _ ((zeroCounters_kept s).trans hkept)]

/-- Settles O24: the ports and the lanes are each a map over the sixteen, and no other field of the state is written. -/
theorem clearCountersZeroesCounters : Obligations.ClearCountersZeroesCounters := by
  intro tag s hready
  refine ⟨_, exec_clearCounters_of_ready hready tag, rfl, port_zeroCounters s, rfl, fun n => ?lane,
    rfl, rfl, rfl, rfl, rfl, rfl, rfl, rfl, rfl⟩
  case lane => rw [lane_place, lane_zeroCounters, Lane.zeroed]

end Sys2Proof.Machine
end

section
/-! PROOFS. CLEAR STICKY: the marks of the named slots and lanes cleared one after the other, the rest left, and the refusal of
the whole request (R177). -/

namespace Sys2Proof.Machine

/-! ## A named slot's mark -/

/-- A key's record with its oversubscribed mark clear (R177). -/
def Key.unmarked (k : Key) : Key := { k with mark := false }

theorem Key.unmarked_comp_unmarked : Key.unmarked ∘ Key.unmarked = Key.unmarked := rfl

theorem clearKeyMark_of_empty {s : State} {slot : Nat} (h : s.key slot = none) : clearKeyMark s slot = s := by
  simp only [clearKeyMark, State.updateKey, h]

theorem clearKeyMark_of_occupied {s : State} {slot : Nat} {k : Key} (h : s.key slot = some k) :
    clearKeyMark s slot = s.setKey slot k.unmarked := by
  simp only [clearKeyMark, State.updateKey, h, Key.unmarked]

theorem key_clearKeyMark_same (s : State) (slot : Nat) :
    (clearKeyMark s slot).key slot = (s.key slot).map Key.unmarked := by
  cases h : s.key slot with
  | none => rw [clearKeyMark_of_empty h, h, Option.map_none]
  | some k => rw [clearKeyMark_of_occupied h, key_setKey_same, Option.map_some]

theorem key_clearKeyMark_other (s : State) {slot other : Nat} (h : other ≠ slot) :
    (clearKeyMark s slot).key other = s.key other := by
  cases hk : s.key slot with
  | none => rw [clearKeyMark_of_empty hk]
  | some k => rw [clearKeyMark_of_occupied hk, key_setKey_other s _ h]

theorem clearKeyMark_holding (s : State) (p : PortId) (slot : Nat) :
    clearKeyMark (s.holding p) slot = (clearKeyMark s slot).holding p := by
  cases h : s.key slot with
  | none => rw [clearKeyMark_of_empty h, clearKeyMark_of_empty ((key_holding s p slot).trans h)]
  | some k => rw [clearKeyMark_of_occupied h, clearKeyMark_of_occupied ((key_holding s p slot).trans h)]; rfl

/-- A slot named twice is cleared as one named once. -/
theorem key_clearKeyMarks (slots : List Nat) (s : State) (slot : Nat) :
    (slots.foldl clearKeyMark s).key slot =
      if slots.any (fun x => x == slot) then (s.key slot).map Key.unmarked else s.key slot := by
  induction slots generalizing s with
  | nil => rfl
  | cons x slots ih =>
    rw [List.foldl_cons, ih, List.any_cons]
    by_cases hx : x = slot
    · subst hx
      simp [key_clearKeyMark_same, Key.unmarked_comp_unmarked]
    · simp [hx, key_clearKeyMark_other s (Ne.symm hx)]

/-! ## A named lane's mark -/

theorem clearLaneMark_of_unnamed {named : ScreenMap} {n : LaneIx} (s : State) (h : named.getLsbD n.val = false) :
    clearLaneMark named n s = s := if_neg (by rw [h]; decide)

theorem clearLaneMark_of_named {named : ScreenMap} {n : LaneIx} (s : State) (h : named.getLsbD n.val = true) :
    clearLaneMark named n s = s.setLane n { s.lane n with mark := false } := if_pos h

theorem lane_clearLaneMark_same (named : ScreenMap) (n : LaneIx) (s : State) :
    (clearLaneMark named n s).lane n = { s.lane n with mark := (s.lane n).mark && !named.getLsbD n.val } := by
  cases h : named.getLsbD n.val with
  | false => rw [clearLaneMark_of_unnamed s h, Bool.not_false, Bool.and_true]
  | true => rw [clearLaneMark_of_named s h, lane_setLane_same, Bool.not_true, Bool.and_false]

theorem lane_clearLaneMark_other (named : ScreenMap) {n m : LaneIx} (h : m ≠ n) (s : State) :
    (clearLaneMark named n s).lane m = s.lane m := by
  cases hn : named.getLsbD n.val with
  | false => rw [clearLaneMark_of_unnamed s hn]
  | true => rw [clearLaneMark_of_named s hn, lane_setLane_other s _ h]

theorem clearLaneMark_holding (named : ScreenMap) (n : LaneIx) (s : State) (p : PortId) :
    clearLaneMark named n (s.holding p) = (clearLaneMark named n s).holding p := by
  cases h : named.getLsbD n.val with
  | false => simp only [clearLaneMark_of_unnamed _ h]
  | true => simp only [clearLaneMark_of_named _ h]; rfl

theorem lane_clearLaneMarks (named : ScreenMap) (s : State) (n : LaneIx) :
    (s.forLanes (clearLaneMark named)).lane n = { s.lane n with mark := (s.lane n).mark && !named.getLsbD n.val } := by
  obtain ⟨u, before, after⟩ := forLanes_through n (fun s t => t.lane n = s.lane n) (fun _ => rfl)
    (fun h k => k.trans h) (fun m hm s => lane_clearLaneMark_other named hm.symm s) s
  rw [after, lane_clearLaneMark_same, before]

/-! ## What the clearing of marks leaves -/

theorem clearKeyMark_frame (s : State) (slot : Nat) : ∃ keys, clearKeyMark s slot = { s with keys := keys } := by
  cases h : s.key slot with
  | none => exact ⟨s.keys, clearKeyMark_of_empty h⟩
  | some k => exact ⟨_, clearKeyMark_of_occupied h⟩

theorem clearKeyMarks_frame (slots : List Nat) (s : State) :
    ∃ keys, slots.foldl clearKeyMark s = { s with keys := keys } := by
  refine List.foldlRecOn (motive := fun t : State => ∃ keys, t = { s with keys := keys }) slots _ ⟨s.keys, rfl⟩ ?step
  case step =>
    rintro - ⟨before, rfl⟩ slot -
    exact clearKeyMark_frame { s with keys := before } slot

theorem clearLaneMark_frame (named : ScreenMap) (n : LaneIx) (s : State) :
    ∃ lanes, clearLaneMark named n s = { s with lanes := lanes } := by
  cases h : named.getLsbD n.val with
  | false => exact ⟨s.lanes, clearLaneMark_of_unnamed s h⟩
  | true => exact ⟨_, clearLaneMark_of_named s h⟩

theorem clearLaneMarks_frame (named : ScreenMap) (s : State) :
    ∃ lanes, s.forLanes (clearLaneMark named) = { s with lanes := lanes } := by
  refine List.foldlRecOn (motive := fun t : State => ∃ lanes, t = { s with lanes := lanes }) allLanes _ ⟨s.lanes, rfl⟩ ?step
  case step =>
    rintro - ⟨before, rfl⟩ n -
    exact clearLaneMark_frame named n { s with lanes := before }

/-! ## The request taken whole -/

theorem clearNamed_frame (kinds : BitVec 17) (lanes : ScreenMap) (slots : List Nat) (s : State) :
    ∃ keys lanes', clearNamed kinds lanes slots s =
      { s with sticky := s.sticky &&& ~~~kinds, keys := keys, lanes := lanes' } := by
  obtain ⟨keys, hkeys⟩ := clearKeyMarks_frame slots { s with sticky := s.sticky &&& ~~~kinds }
  obtain ⟨lanes', hlanes⟩ := clearLaneMarks_frame lanes (slots.foldl clearKeyMark { s with sticky := s.sticky &&& ~~~kinds })
  exact ⟨keys, lanes', by rw [clearNamed, hlanes, hkeys]⟩

@[simp] theorem clearNamed_kept (kinds : BitVec 17) (lanes : ScreenMap) (slots : List Nat) (s : State) :
    (clearNamed kinds lanes slots s).kept = s.kept := by
  obtain ⟨keys, lanes', h⟩ := clearNamed_frame kinds lanes slots s
  rw [h]

theorem key_clearNamed (kinds : BitVec 17) (lanes : ScreenMap) (slots : List Nat) (s : State) (slot : Nat) :
    (clearNamed kinds lanes slots s).key slot =
      if slots.any (fun x => x == slot) then (s.key slot).map Key.unmarked else s.key slot := by
  obtain ⟨lanes', hlanes⟩ := clearLaneMarks_frame lanes (slots.foldl clearKeyMark { s with sticky := s.sticky &&& ~~~kinds })
  rw [clearNamed, hlanes]
  exact key_clearKeyMarks slots _ slot

theorem lane_clearNamed (kinds : BitVec 17) (lanes : ScreenMap) (slots : List Nat) (s : State) (n : LaneIx) :
    (clearNamed kinds lanes slots s).lane n =
      { s.lane n with mark := (s.lane n).mark && !lanes.getLsbD n.val } := by
  obtain ⟨keys, hkeys⟩ := clearKeyMarks_frame slots { s with sticky := s.sticky &&& ~~~kinds }
  rw [clearNamed, lane_clearLaneMarks, hkeys]
  rfl

/-- Clearing places nothing, so the place kept for the reply does not show in it. -/
theorem clearNamed_holding (kinds : BitVec 17) (lanes : ScreenMap) (slots : List Nat) (s : State) (p : PortId) :
    clearNamed kinds lanes slots (s.holding p) = (clearNamed kinds lanes slots s).holding p := by
  have hkeys (t : State) : slots.foldl clearKeyMark (t.holding p) = (slots.foldl clearKeyMark t).holding p :=
    List.foldl_hom (fun t : State => t.holding p) (fun t slot => clearKeyMark_holding t p slot)
  have hlanes (t : State) :
      (t.holding p).forLanes (clearLaneMark lanes) = (t.forLanes (clearLaneMark lanes)).holding p :=
    List.foldl_hom (fun t : State => t.holding p) (fun t n => clearLaneMark_holding lanes n t p)
  rw [clearNamed, clearNamed, ← hlanes, ← hkeys]
  rfl

/-! ## The two rows of R177 -/

theorem clearSticky_of_named {kinds : KindMap} {slots : List Nat} (lanes : ScreenMap) (kind : Byte) (s : State)
    (hkinds : kinds.toNat < 2 ^ 17) (hslots : ∀ slot ∈ slots, slot < 512) :
    clearSticky kinds lanes slots kind s =
      (clearNamed (kindsOf kinds) lanes slots s, stickyReply (clearNamed (kindsOf kinds) lanes slots s)) := by
  have hkinds' : namesNoKind kinds = false := decide_eq_false (Nat.not_le.mpr hkinds)
  have hslots' : slots.any (fun slot => !slotInRange slot) = false := by
    simpa [slotInRange] using hslots
  simp [clearSticky, hkinds', hslots']

/-- A position that is no kind or a slot above 511 refuses the request whole. -/
theorem clearSticky_of_refused {kinds : KindMap} {slots : List Nat} (lanes : ScreenMap) (kind : Byte) (s : State)
    (h : 2 ^ 17 ≤ kinds.toNat ∨ ∃ slot ∈ slots, 512 ≤ slot) :
    clearSticky kinds lanes slots kind s = (s, .plain kind .badField) := by
  have hguard : (namesNoKind kinds || slots.any (fun slot => !slotInRange slot)) = true := by
    simpa [namesNoKind, slotInRange] using h
  simp only [clearSticky, hguard, if_true]

/-! ## The request on the management port -/

/-- CLEAR STICKY on a management port that takes at once is answered by the Event Unit (R165, R177). -/
theorem exec_clearSticky_of_ready {s : State} (h : s.ready .mgmt) (tag : Byte) (kinds : KindMap) (lanes : ScreenMap)
    (slots : List (BitVec 16)) :
    exec (.clearSticky .mgmt tag kinds lanes slots) s =
      .next (replyOn .mgmt tag (clearSticky kinds lanes (slots.map BitVec.toNat) 0x1D (s.holding .mgmt))) :=
  exec_of_ready .mgmt tag (.clearSticky kinds lanes slots) s h

/-- A CLEAR STICKY that names no other position and no slot above 511 clears what it names, and then the reply goes out, which
reports the flags and marks as cleared (R171, R177). -/
theorem exec_clearSticky_of_named {s : State} (h : s.ready .mgmt) (tag : Byte) {kinds : KindMap} (lanes : ScreenMap)
    {slots : List (BitVec 16)} (hkinds : kinds.toNat < 2 ^ 17) (hslots : ∀ slot ∈ slots, slot.toNat < 512) :
    exec (.clearSticky .mgmt tag kinds lanes slots) s =
      .next ((clearNamed (kindsOf kinds) lanes (slots.map BitVec.toNat) s).place .mgmt
        (.reply tag (stickyReply (clearNamed (kindsOf kinds) lanes (slots.map BitVec.toNat) s)))) := by
  rw [exec_clearSticky_of_ready h, clearSticky_of_named lanes _ _ hkinds (by simpa using hslots), clearNamed_holding]
  obtain ⟨-, -, -, hkept⟩ := h
  exact congrArg _ (replyOn_same .mgmt tag _ (stickyReply _) ((clearNamed_kept _ _ _ s).trans hkept))

theorem exec_clearSticky_of_refused {s : State} (h : s.ready .mgmt) (tag : Byte) {kinds : KindMap} (lanes : ScreenMap)
    {slots : List (BitVec 16)} (hbad : 2 ^ 17 ≤ kinds.toNat ∨ ∃ slot ∈ slots, 512 ≤ slot.toNat) :
    exec (.clearSticky .mgmt tag kinds lanes slots) s = .next (s.place .mgmt (.reply tag (.plain 0x1D .badField))) := by
  rw [exec_clearSticky_of_ready h, clearSticky_of_refused lanes _ _ (by simpa using hbad)]
  obtain ⟨-, -, -, hkept⟩ := h
  rw [replyOn_same _ _ _ _ hkept]

/-- What a CLEAR STICKY taken whole leaves, whatever frame `f` answers it on the management port: flags and marks apart, only that
frame. -/
theorem clearNamed_place_frame (kinds : BitVec 17) (lanes : ScreenMap) (slots : List Nat) (s : State) (f : TxFrame) :
    let t := (clearNamed kinds lanes slots s).place .mgmt f
    t.sticky = s.sticky &&& ~~~kinds ∧ t.releases = s.releases ∧ t.ports = s.ports ∧ t.clock = s.clock
      ∧ t.framer = s.framer ∧ s.keepsSettings t ∧ t.mgmt = { s.mgmt with tx := s.mgmt.tx ++ [f] } := by
  have hlane := lane_clearNamed kinds lanes slots s
  obtain ⟨keys, lanes', h⟩ := clearNamed_frame kinds lanes slots s
  rw [h] at hlane ⊢
  refine ⟨rfl, rfl, rfl, rfl, rfl, ⟨rfl, rfl, rfl, rfl, rfl, rfl, rfl, fun n => ⟨rfl, ?_⟩⟩, rfl⟩
  rw [lane_place, hlane n]
  exact ⟨rfl, rfl, rfl⟩

/-- Settles O23, by the two rows of R177: the request taken whole, and the refusal. -/
theorem clearStickyClearsWhatItNames : Obligations.ClearStickyClearsWhatItNames := by
  intro tag kinds lanes slots s hready
  refine ⟨fun hkinds hslots => ?taken, exec_clearSticky_of_refused hready tag lanes⟩
  case taken =>
    obtain ⟨hsticky, hreleases, hports, hclock, hframer, hsettings, hmgmt⟩ :=
      clearNamed_place_frame (kindsOf kinds) lanes (slots.map BitVec.toNat) s (.reply tag (stickyReply _))
    refine ⟨_, exec_clearSticky_of_named hready tag lanes hkinds hslots, hsticky, fun slot => ?key, fun n => ?lane,
      hreleases, hports, hclock, hframer, hsettings, hmgmt⟩
    case key =>
      rw [key_place, key_clearNamed, List.any_map]
      rfl
    case lane => rw [lane_place, lane_clearNamed]

end Sys2Proof.Machine
end

section
/-! PROOFS. What every command keeps: a relation between states that holds across each operation the blocks share holds across every
command. The traversal of the commands is made once, here; an invariant of the whole part gives the relation. -/

namespace Sys2Proof.Machine

/-! ## The moves of the clock and of the framer -/

/-- A move of the clock that keeps to the table of its time states and never takes the floor back (R25, R37, R39). -/
structure ClockMoves (c d : Clock) : Prop where
  lawful : ClockLawful c → ClockLawful d
  floor : c.floor ≤ d.floor

/-- The clean window is not complete (R3). -/
def Framer.windowOpen (f : Framer) : Prop := f.state = .silent → f.clean < 64

/-- A move of the framer that keeps its records in their ranges, and completes no clean window (R1, R3, R9 to R12, R19). -/
structure FramerMoves (f g : Framer) : Prop where
  lawful : FramerLawful f → FramerLawful g
  window : f.windowOpen → g.windowOpen

theorem ClockMoves.refl (c : Clock) : ClockMoves c c := ⟨id, Nat.le_refl _⟩

theorem FramerMoves.refl (f : Framer) : FramerMoves f f := ⟨id, id⟩

theorem FramerMoves.trans {f g h : Framer} (a : FramerMoves f g) (b : FramerMoves g h) : FramerMoves f h :=
  ⟨b.lawful ∘ a.lawful, b.window ∘ a.window⟩

theorem ClockMoves.trans {c d e : Clock} (a : ClockMoves c d) (b : ClockMoves d e) : ClockMoves c e :=
  ⟨b.lawful ∘ a.lawful, Nat.le_trans a.floor b.floor⟩

/-! ## The operations that the part's own events are made of -/

/-- A relation that holds across each operation of the tick and the line. -/
structure EventsKeep (R : State → State → Prop) : Prop where
  refl : ∀ s, R s s
  trans : ∀ {s t u}, R s t → R t u → R s u
  framer : ∀ s f, FramerMoves s.framer f → R s (s.setFramer f)
  clock : ∀ s c, ClockMoves s.clock c → R s (s.setClock c)
  raise : ∀ s e, R s (s.raise e)
  evaluateSlot : ∀ slot s, R s (evaluateSlot slot s)
  laneTick : ∀ n s, R s (laneTick n s)
  oweLane : ∀ n s, R s (s.setLane n { s.lane n with tickOwed := true })
  countDownLane : ∀ n s, R s (countDownLane n s)
  timeOutWithdrawals : ∀ n s, R s (timeOutWithdrawals n s)
  timeOutClearing : ∀ n s, R s (timeOutClearing n s)
  portTick : ∀ n s, R s (portTick n s)
  recheckAt : ∀ n s, R s (recheckAt n s)

theorem forLanes_keep {R : State → State → Prop} (refl : ∀ s, R s s) (trans : ∀ {s t u}, R s t → R t u → R s u)
    {f : LaneIx → State → State} (h : ∀ n s, R s (f n s)) (s : State) : R s (s.forLanes f) := by
  unfold State.forLanes
  generalize allLanes = lanes
  induction lanes generalizing s with
  | nil => exact refl s
  | cons n lanes ih => exact trans (h n s) (ih (f n s))

namespace EventsKeep

variable {R : State → State → Prop} (h : EventsKeep R)
include h

theorem forLanes {f : LaneIx → State → State} (hf : ∀ n s, R s (f n s)) (s : State) : R s (s.forLanes f) :=
  forLanes_keep h.refl h.trans hf s

theorem evaluate (s : State) : R s (evaluate s) := evaluate_through R h.refl h.trans h.evaluateSlot s

theorem announceTimeState (before : TimeState) (cause : TimeCause) (s : State) : R s (announceTimeState before cause s) :=
  h.trans (h.evaluate s) (h.raise _ _)

theorem stepNotice (s : State) : R s (stepNotice s) := h.forLanes h.recheckAt s

/-! ## The tick (R24) -/

theorem failTick (s : State) : R s (failTick s) := by
  have move (timer : Nat) (alarm : Bool) (ht : timer ≤ 120) :
      FramerMoves s.framer { s.framer with tickOwed := false, failTimer := timer, alarm := alarm } :=
    ⟨fun ⟨h1, h2, h3, h4, h5, h6, h7, h8, _⟩ => ⟨h1, h2, h3, h4, h5, h6, h7, h8, ht⟩, id⟩
  unfold Machine.failTick
  dsimp only
  split
  · exact h.framer s _ ⟨id, id⟩
  · split
    · exact h.trans (h.framer s _ (move _ true (Nat.min_le_left _ _))) (h.raise _ _)
    · exact h.framer s _ (move _ s.framer.alarm (Nat.min_le_left _ _))

theorem settleTick (s : State) : R s (settleTick s) := by
  have howed (s : State) : R s (if s.framer.tickOwed then Machine.failTick s else s) := by
    split
    · exact h.failTick s
    · exact h.refl s
  unfold Machine.settleTick
  split
  · refine h.trans (h.trans (howed s) (h.forLanes (fun n s => ?timeouts) _)) (h.forLanes (fun n s => ?lanes) _)
    case timeouts => exact h.trans (h.timeOutWithdrawals n s) (h.timeOutClearing n _)
    case lanes =>
      unfold takeOwedLane
      split
      · exact h.laneTick n s
      · exact h.refl s
  · exact h.refl s

theorem handOn (apart : List TickPart) (s : State) : R s (handOn apart s) := by
  have hframer (s : State) : R s (shareFramer apart s) := by
    unfold shareFramer
    split
    · exact h.framer s _ ⟨id, id⟩
    · exact h.failTick s
  have hrelease (n : LaneIx) (s : State) : R s (shareRelease apart n s) := by
    unfold shareRelease
    dsimp only
    split
    · exact h.countDownLane n s
    · exact h.trans (h.countDownLane n s) (h.trans (h.timeOutWithdrawals n _) (h.timeOutClearing n _))
  have hlane (n : LaneIx) (s : State) : R s (shareLane apart n s) := by
    unfold shareLane
    split
    · exact h.oweLane n s
    · exact h.laneTick n s
  unfold Machine.handOn
  split
  · exact h.trans (h.trans (h.trans (h.trans (hframer s) (h.forLanes hrelease _)) (h.forLanes hlane _))
      (h.forLanes h.portTick _)) (h.evaluate _)
  · exact h.evaluate s

end EventsKeep

end Sys2Proof.Machine
end

section
/-! PROOFS. The moves the clock makes: each keeps to the table of its time states and takes no floor back (R24 to R41). -/

namespace Sys2Proof.Machine

theorem toHoldover_moves {c : Clock} (h : c.time = .assured) : ClockMoves c c.toHoldover := by
  refine ⟨fun ⟨ht, hums, _, huc, hassured, _, _, _⟩ => ?_, Nat.le_refl _⟩
  have hu : ceilSeconds (c.uMs.getD 0) ≤ 2 := hassured h
  have hsome : ∃ m, c.uMs = some m := Option.isSome_iff_exists.mp (by rw [hums, h]; decide)
  obtain ⟨m, hm⟩ := hsome
  simp only [hm, Option.getD_some, ceilSeconds] at hu
  rw [h] at ht
  refine ⟨ht, by simp [Clock.toHoldover, hm], rfl, huc, by simp [Clock.toHoldover],
    fun _ => ?_, by simp [Clock.toHoldover], fun _ => ?_⟩
  · simp only [Clock.toHoldover, Clock.u, hm, Option.getD_some, ceilSeconds]
    omega
  · simp only [Clock.toHoldover, hm, holdoverUMs, Option.getD_some, Config.maxUMs, Option.some.injEq]
    omega

/-- What a confirmation of a usable quality makes of the clock (R27, R29, R31). -/
theorem confirmed_moves (c : Clock) (w : Nat) {q : Nat} (hq : q ≤ 2) (step : Option StepRecord) :
    ClockMoves c { c.confirmed w q with lastStep := step } := by
  have hbound : ceilSeconds (qualityBound q) ≤ 2 := by
    interval_cases q <;> decide
  by_cases h : c.time = .assured
  · rw [Clock.confirmed, if_pos h]
    refine ⟨fun ⟨_, _, hh, huc, _, _, _, _⟩ => ⟨by simp [h], by simp [h], hh, huc, fun _ => hbound, ?_, ?_, ?_⟩, Nat.le_refl _⟩
    all_goals simp [h]
  · rw [Clock.confirmed, if_neg h]
    refine ⟨fun ⟨_, _, _, huc, _, _, _, _⟩ => ⟨rfl, rfl, rfl, huc, fun _ => hbound, ?_, ?_, ?_⟩, Nat.le_refl _⟩
    all_goals simp

/-- A tick in ASSURED (R24, R39). -/
theorem assuredTick_moves (c : Clock) : ClockMoves c c.advanceT.raiseFloor := by
  refine ⟨fun ⟨ht, hums, hh, huc, hassured, hhold, hun, hcarry⟩ => ⟨?_, hums, hh, huc, hassured, hhold, hun, hcarry⟩,
    Nat.le_max_left _ _⟩
  simpa [Clock.raiseFloor, Clock.advanceT] using ht

/-- The uncertainty never falls while the oscillator carries T (R36). -/
theorem holdoverUMs_mono (u0 : Nat) {acc acc' : Nat} (h : acc ≤ acc') : holdoverUMs u0 acc ≤ holdoverUMs u0 acc' := by
  simp only [holdoverUMs]
  omega

theorem u_of_carried {c : Clock} (h : c.uMs = some (holdoverUMs c.u0 c.acc)) : c.u ≤ c.advanceT.advanceHoldover.u := by
  have hacc : c.acc ≤ c.advanceT.advanceHoldover.acc := by
    change c.acc ≤ if c.uMs.getD 0 < Config.maxUMs then c.acc + c.params.r else c.acc
    split <;> omega
  have hmono := holdoverUMs_mono c.u0 hacc
  have hnew : c.advanceT.advanceHoldover.uMs = some (holdoverUMs c.u0 c.advanceT.advanceHoldover.acc) := rfl
  simp only [Clock.u, h, hnew, Option.getD_some, ceilSeconds]
  omega

theorem unassuredTick_moves {c : Clock} (h : c.time = .unassured) : ClockMoves c c.advanceT.advanceHoldover := by
  refine ⟨fun ⟨ht, _, hh, huc, _, _, hun, hcarry⟩ => ⟨?_, ?_, ?_, huc, ?_, ?_, fun _ => ?_, fun _ => rfl⟩, Nat.le_refl _⟩
  · simpa [Clock.advanceHoldover, Clock.advanceT] using ht
  · simp [Clock.advanceHoldover, Clock.advanceT, h]
  · simpa [Clock.advanceHoldover, Clock.advanceT] using hh
  · simp [Clock.advanceHoldover, Clock.advanceT, h]
  · simp [Clock.advanceHoldover, Clock.advanceT, h]
  · exact Nat.lt_of_lt_of_le (hun h) (u_of_carried (hcarry (.inr h)))

/-- A holdover tick whose U stays at or below the ceiling (R37, R39). -/
theorem holdoverTick_moves {c : Clock} (h : c.time = .holdover)
    (hu : ¬ c.advanceT.advanceHoldover.params.uc < c.advanceT.advanceHoldover.u) :
    ClockMoves c c.advanceT.advanceHoldover.raiseFloor := by
  refine ⟨fun ⟨ht, _, hh, huc, _, _, _, _⟩ => ⟨?_, ?_, ?_, huc, ?_, fun _ => Nat.le_of_not_lt hu, ?_, fun _ => rfl⟩,
    Nat.le_max_left _ _⟩
  · simpa [Clock.raiseFloor, Clock.advanceHoldover, Clock.advanceT] using ht
  · simp [Clock.raiseFloor, Clock.advanceHoldover, Clock.advanceT, h]
  · simpa [Clock.raiseFloor, Clock.advanceHoldover, Clock.advanceT] using hh
  · simp [Clock.raiseFloor, Clock.advanceHoldover, Clock.advanceT, h]
  · simp [Clock.raiseFloor, Clock.advanceHoldover, Clock.advanceT, h]

/-- The holdover tick that passes the ceiling (R37). -/
theorem ceilingTick_moves {c : Clock} (h : c.time = .holdover)
    (hu : c.advanceT.advanceHoldover.params.uc < c.advanceT.advanceHoldover.u) :
    ClockMoves c { c.advanceT.advanceHoldover with time := .unassured } := by
  refine ⟨fun ⟨ht, _, hh, huc, _, _, _, _⟩ => ⟨?_, rfl, ?_, huc, nofun, nofun, fun _ => hu, fun _ => rfl⟩, Nat.le_refl _⟩
  · rw [h] at ht
    exact (Option.isSome_map ..).trans ht
  · rw [h] at hh
    exact (Option.isSome_map ..).trans hh

/-- A seed of at most 600 seconds in NO TIME (R40). -/
theorem seeded_moves {c : Clock} (value : Nat) {s : Nat} (hs : s ≤ 600) : ClockMoves c (c.seeded value s) := by
  refine ⟨fun ⟨_, _, _, huc, _, _, _, _⟩ => ?_, Nat.le_refl _⟩
  have hcarry : some (s * 1000) = some (holdoverUMs (s * 1000) 0) := by
    simp only [holdoverUMs, Config.maxUMs, Option.some.injEq]
    omega
  by_cases h : c.params.uc < ceilSeconds (s * 1000)
  · refine ⟨?_, ?_, ?_, huc, ?_, ?_, fun _ => h, fun _ => hcarry⟩ <;> simp [Clock.seeded, h]
  · refine ⟨?_, ?_, ?_, huc, ?_, fun _ => Nat.le_of_not_lt h, ?_, fun _ => hcarry⟩ <;> simp [Clock.seeded, h]

theorem clampTo_bounds {lo hi : Nat} (h : lo ≤ hi) (v : Nat) : lo ≤ clampTo lo hi v ∧ clampTo lo hi v ≤ hi := by
  simp only [clampTo]
  omega

/-- Parameters written without a ceiling (R41). -/
theorem params_moves (c : Clock) {p : ClockParams} (h : p.uc = c.params.uc) : ClockMoves c { c with params := p } := by
  refine ⟨fun ⟨ht, hums, hh, huc, hassured, hhold, hun, hcarry⟩ => ⟨ht, hums, hh, ?_, hassured, ?_, ?_, hcarry⟩, Nat.le_refl _⟩
  · rw [h]; exact huc
  · rw [h]; exact hhold
  · rw [h]; exact hun

/-- A ceiling written in its range, and the time state moved to the side of it on which U stands (R38, R41). -/
theorem ceiling_moves (c : Clock) {p : ClockParams} (h : 5 ≤ p.uc ∧ p.uc ≤ 600) :
    ClockMoves c { c with params := p, time := ({ c with params := p } : Clock).ceilingState } := by
  refine ⟨fun ⟨ht, hums, hh, huc, hassured, hhold, hun, hcarry⟩ => ?_, Nat.le_refl _⟩
  obtain ⟨time, t, uMs, u0, acc, hTicks, floor, miss, prev, regress, lastStep, params, osc⟩ := c
  cases time with
  | noTime => exact ⟨ht, hums, hh, h, nofun, nofun, nofun, hcarry⟩
  | assured => exact ⟨ht, hums, hh, h, hassured, nofun, nofun, hcarry⟩
  | holdover =>
    dsimp only [Clock.ceilingState]
    split
    · next hover => exact ⟨ht, hums, hh, h, nofun, nofun, fun _ => hover, fun _ => hcarry (.inl rfl)⟩
    · next hunder => exact ⟨ht, hums, hh, h, nofun, fun _ => Nat.le_of_not_lt hunder, nofun, fun _ => hcarry (.inl rfl)⟩
  | unassured =>
    dsimp only [Clock.ceilingState]
    split
    · next hover => exact ⟨ht, hums, hh, h, nofun, nofun, fun _ => hover, fun _ => hcarry (.inr rfl)⟩
    · next hunder => exact ⟨ht, hums, hh, h, nofun, fun _ => Nat.le_of_not_lt hunder, nofun, fun _ => hcarry (.inr rfl)⟩

end Sys2Proof.Machine
end

section
/-! PROOFS. The moves of the framer, and what the tick and every instant of the line keep (R1 to R19, R24 to R34). -/

namespace Sys2Proof.Machine

/-! ## The moves of the framer -/

theorem count_moves (f : Framer) (g : FramerCounters → FramerCounters) : FramerMoves f (f.count g) := ⟨id, id⟩

/-- A departure from ALIGNED to another state than SILENT (R14). -/
theorem dropped_moves (f : Framer) (g : FramerCounters → FramerCounters) : FramerMoves f ((f.dropped .search).count g) :=
  ⟨fun ⟨h1, h2, h3, h4, _, _, _, h8, _⟩ => ⟨h1, h2, h3, h4, Nat.zero_le _, Nat.zero_le _, Nat.le_refl _, h8, Nat.zero_le _⟩,
    fun _ => nofun⟩

theorem dropCandidate_moves (f : Framer) : FramerMoves f f.dropCandidate :=
  ⟨fun ⟨h1, h2, h3, _, h5, h6, h7, h8, h9⟩ => ⟨h1, h2, h3, rfl, h5, h6, h7, h8, h9⟩, fun _ => nofun⟩

theorem endedPhase_lt (f : Framer) : f.endedPhase < 128 := Nat.mod_lt _ (by decide)

theorem alignedAt_moves (f : Framer) (candidate : Nat) (p : ClockParams) :
    FramerMoves f (f.alignedAt ((candidate + 72) % 128) p) := by
  refine ⟨fun ⟨h1, h2, _, _, _, _, _, h8, h9⟩ => ⟨h1, h2, ?_, rfl, Nat.zero_le _, Nat.zero_le _, Nat.le_refl _, h8, h9⟩,
    fun _ => nofun⟩
  simpa [Framer.alignedAt] using Nat.mod_lt _ (by decide)

/-- The check window one superframe end on (R12). -/
theorem advanceCheckWindow_moves (f : Framer) : FramerMoves f f.advanceCheckWindow := by
  unfold Framer.advanceCheckWindow
  split
  · exact ⟨fun ⟨h1, h2, h3, h4, h5, _, _, h8, h9⟩ => ⟨h1, h2, h3, h4, h5, (by decide : 1 ≤ 16), Nat.zero_le _, h8, h9⟩, id⟩
  · next hends =>
    exact ⟨fun ⟨h1, h2, h3, h4, h5, _, h7, h8, h9⟩ =>
      ⟨h1, h2, h3, h4, h5, Nat.lt_of_not_le hends, Nat.le_succ_of_le h7, h8, h9⟩, id⟩

/-- A failed check in the window just advanced (R12). -/
theorem countCheckError_moves (f : Framer) : FramerMoves f f.advanceCheckWindow.countCheckError := by
  unfold Framer.advanceCheckWindow
  split
  · exact ⟨fun ⟨h1, h2, h3, h4, h5, _, _, h8, h9⟩ => ⟨h1, h2, h3, h4, h5, (by decide : 1 ≤ 16), Nat.le_refl 1, h8, h9⟩, id⟩
  · next hends =>
    exact ⟨fun ⟨h1, h2, h3, h4, h5, _, h7, h8, h9⟩ =>
      ⟨h1, h2, h3, h4, h5, Nat.lt_of_not_le hends, Nat.succ_le_succ h7, h8, h9⟩, id⟩

theorem judged_moves (f : Framer) : FramerMoves f f.judged := by
  have mark (f : Framer) (errored : Bool) :
      FramerMoves f { f with lossWindow := (errored :: f.lossWindow).take 8, fresh := false } :=
    ⟨fun ⟨h1, h2, h3, h4, _, h6, h7, h8, h9⟩ => ⟨h1, h2, h3, h4, List.length_take_le _ _, h6, h7, h8, h9⟩, id⟩
  unfold Framer.judged
  dsimp only
  split
  · exact (count_moves f _).trans (mark (f.count _) _)
  · exact mark f _

namespace EventsKeep

variable {R : State → State → Prop} (h : EventsKeep R)
include h

/-! ## The clock at the tick and at the framer's notices -/

theorem clockTick (s : State) : R s (clockTick s) := by
  unfold Machine.clockTick
  split
  · exact h.refl s
  · exact h.clock s _ (assuredTick_moves _)
  · next htime => exact h.clock s _ (unassuredTick_moves htime)
  · next htime =>
    dsimp only
    split
    · next hover => exact h.trans (h.clock s _ (ceilingTick_moves htime hover)) (h.announceTimeState _ _ _)
    · next hunder => exact h.clock s _ (holdoverTick_moves htime hunder)

theorem tick (apart : List TickPart) (s : State) : R s (tick apart s) :=
  h.trans (h.trans (h.settleTick s) (h.clockTick _)) (h.handOn apart _)

theorem enterHoldover (cause : TimeCause) (s : State) (ht : s.clock.time = .assured) : R s (enterHoldover cause s) :=
  h.trans (h.clock s _ (toHoldover_moves ht)) (h.announceTimeState _ _ _)

theorem forgetWord (s : State) (prev : Option Nat) : R s (s.setClock { s.clock with prev := prev }) :=
  h.clock s _ ⟨id, Nat.le_refl _⟩

theorem lossNotice (cause : TimeCause) (s : State) : R s (lossNotice cause s) := by
  rw [lossNotice_cases]
  split
  · next ht => exact h.trans (h.forgetWord s none) (h.enterHoldover cause _ ht)
  · exact h.forgetWord s none

theorem noteMiss (s : State) : R s (noteMiss s) := by
  unfold Machine.noteMiss
  split
  · next ht =>
    split
    · exact h.enterHoldover _ s ht
    · exact h.clock s _ ⟨id, Nat.le_refl _⟩
  · exact h.refl s

theorem noteRegression (w : Nat) (s : State) : R s (noteRegression w s) := by
  unfold Machine.noteRegression
  split
  · split
    · exact h.refl s
    · refine h.trans (h.clock s _ ?moves) (h.raise _ _)
      case moves => exact ⟨id, Nat.le_refl _⟩
  · exact h.refl s

theorem announceStep (r : StepRecord) (lanesFirst : Bool) (s : State) : R s (announceStep r lanesFirst s) := by
  unfold Machine.announceStep
  dsimp only
  split
  · exact h.trans (h.raise s _) (h.trans (h.stepNotice _) (h.evaluate _))
  · exact h.trans (h.raise s _) (h.trans (h.evaluate _) (h.stepNotice _))

theorem confirm (w : Nat) {q : Nat} (hq : q ≤ 2) (lanesFirst : Bool) (s : State) : R s (confirm w q lanesFirst s) := by
  have announced (u : State) (hu : R s u) :
      R s (if s.clock.time = .assured then u else Machine.announceTimeState s.clock.time .confirmed u) := by
    split
    · exact hu
    · exact h.trans hu (h.announceTimeState _ _ _)
  unfold Machine.confirm
  apply announced
  cases s.clock.stepTo w with
  | none => exact h.clock s _ (confirmed_moves _ w hq _)
  | some r => exact h.trans (h.clock s _ (confirmed_moves _ w hq _)) (h.announceStep r lanesFirst _)

theorem reportNone (s : State) : R s (reportNone s) := h.trans (h.forgetWord s none) (h.noteMiss _)

theorem reportCandidate (w q : Nat) (lanesFirst : Bool) (s : State) : R s (reportCandidate w q lanesFirst s) := by
  unfold Machine.reportCandidate
  dsimp only
  split
  · next hc =>
    have hq : q ≤ 2 := by
      simp only [confirms, Bool.and_eq_true, decide_eq_true_eq] at hc
      exact hc.1.2
    exact h.trans (h.confirm w hq lanesFirst s) (h.forgetWord _ _)
  · exact h.trans (h.trans (h.noteRegression w s) (h.noteMiss _)) (h.forgetWord _ _)

/-! ## The instants of the line -/

theorem loseAlignment (cause : TimeCause) (s : State) : R s (loseAlignment cause s) :=
  h.trans (h.framer s _ (dropped_moves _ _)) (h.lossNotice cause _)

theorem silenceEntry (s : State) : R s (silenceEntry s) := by
  unfold Machine.silenceEntry
  split
  · dsimp only
    split
    · refine h.trans (h.framer s _ ⟨fun ⟨h1, h2, h3, h4, _, _, _, _, _⟩ => ?_, fun _ _ => Nat.zero_lt_succ _⟩) (h.lossNotice _ _)
      exact ⟨h1, h2, h3, h4, Nat.zero_le _, Nat.zero_le _, Nat.le_refl _, Nat.zero_le _, Nat.zero_le _⟩
    · refine h.framer s _ ⟨fun ⟨h1, h2, h3, _, h5, h6, h7, _, h9⟩ => ?_, fun _ _ => Nat.zero_lt_succ _⟩
      exact ⟨h1, h2, h3, rfl, h5, h6, h7, Nat.zero_le _, h9⟩
  · exact h.refl s

theorem cleanWindow (s : State) : R s (cleanWindow s) := by
  unfold Machine.cleanWindow
  split
  · exact h.framer s _ ⟨fun ⟨h1, h2, h3, h4, h5, h6, h7, _, h9⟩ => ⟨h1, h2, h3, h4, h5, h6, h7, Nat.zero_le _, h9⟩,
      fun _ => nofun⟩
  · exact h.refl s

theorem candidatePosition (s : State) : R s (candidatePosition s) := by
  unfold Machine.candidatePosition
  dsimp only
  split
  · refine h.framer s _ ⟨fun ⟨h1, h2, h3, _, h5, h6, h7, h8, h9⟩ => ⟨h1, h2, h3, ?_, h5, h6, h7, h8, h9⟩, fun _ => nofun⟩
    simpa using endedPhase_lt s.framer
  · exact h.refl s

theorem mimic (s : State) : R s (mimic s) := by
  unfold Machine.mimic
  dsimp only
  split
  · exact h.refl s
  · split
    · refine h.framer s _ ?_
      split
      · exact (count_moves _ _).trans (dropCandidate_moves _)
      · exact ⟨id, id⟩
    · exact h.refl s

theorem declareAlignment (candidate : Nat) (s : State) : R s (declareAlignment candidate s) := by
  have hrecord (position : Nat) (s : State) : R s (recordPosition position s) := by
    unfold recordPosition
    split
    · exact h.refl s
    · split
      · exact h.refl s
      · exact h.trans (h.framer s _ (count_moves _ _)) (h.raise _ _)
  have hrestore (position : Nat) (s : State) : R s (restoreReference position s) := by
    unfold restoreReference
    split
    · refine h.trans (h.framer s _ ?moves) (h.raise _ _)
      case moves => exact ⟨id, id⟩
    · exact h.refl s
  exact h.trans (h.trans (hrecord _ s) (h.framer _ _ (alignedAt_moves _ _ _))) (hrestore _ _)

theorem confirmTest (s : State) : R s (confirmTest s) := by
  unfold Machine.confirmTest
  dsimp only
  split
  · exact h.refl s
  · split
    · split
      · exact h.declareAlignment _ s
      · exact h.framer s _ (dropCandidate_moves _)
    · exact h.refl s

theorem deliver (covered : List LineBit) (lanesFirst : Bool) (s : State) : R s (deliver covered lanesFirst s) := by
  have hcapture (bytes : List Byte) (s : State) : R s (captureBroadcast bytes s) := by
    unfold captureBroadcast
    dsimp only
    split
    · refine h.trans (h.framer s _ ?moves) (h.raise _ _)
      case moves => exact ⟨id, id⟩
    · exact h.framer s _ ⟨id, id⟩
  refine h.trans (h.trans (h.framer s _ ?moves) (h.reportCandidate _ _ _ _)) (hcapture _ _)
  case moves => exact ⟨id, id⟩

theorem strictConfirmTest (lanesFirst : Bool) (s : State) : R s (strictConfirmTest lanesFirst s) := by
  unfold Machine.strictConfirmTest
  dsimp only
  split
  · exact h.refl s
  · split
    · split
      · refine h.framer s _ ?_
        split
        · exact ⟨id, id⟩
        · exact dropCandidate_moves _
      · split
        · split
          · exact h.trans (h.declareAlignment _ s) (h.deliver _ _ _)
          · exact h.framer s _ (dropCandidate_moves _)
        · exact h.refl s
    · exact h.refl s

theorem superframeStart (apart : List TickPart) (s : State) : R s (superframeStart apart s) := by
  unfold Machine.superframeStart
  split
  · have hstart (u : State) (hu : R s u) :
        R s (if u.clock.time = .assured then Machine.tick apart (restartOscillator u) else u) := by
      split
      · exact h.trans (h.trans hu (h.clock u { u.clock with osc := 0 } ⟨id, Nat.le_refl _⟩)) (h.tick apart _)
      · exact hu
    refine hstart _ (h.framer s _ ?moves)
    case moves => exact ⟨id, id⟩
  · exact h.refl s

theorem alignmentTest (s : State) : R s (alignmentTest s) := by
  unfold Machine.alignmentTest
  dsimp only
  split
  · split
    · exact h.trans (h.framer s _ (judged_moves _)) (h.loseAlignment _ _)
    · exact h.framer s _ (judged_moves _)
  · exact h.refl s

theorem superframeEnd (lanesFirst : Bool) (s : State) : R s (superframeEnd lanesFirst s) := by
  have taken (f : Framer) (held : Option (List Byte)) :
      FramerMoves f { f with awaiting := none, fresh := false, heldBytes := held } := ⟨id, id⟩
  have failed := (countCheckError_moves s.framer).trans (taken _ none)
  unfold Machine.superframeEnd
  dsimp only
  split
  · split
    · exact h.trans (h.framer s _ ((advanceCheckWindow_moves _).trans (taken _ none))) (h.reportNone _)
    · split
      · exact h.trans (h.framer s _ ((advanceCheckWindow_moves _).trans (taken _ _))) (h.deliver _ _ _)
      · split
        · exact h.trans (h.framer s _ failed) (h.loseAlignment _ _)
        · exact h.trans (h.framer s _ failed) (h.reportNone _)
  · exact h.refl s

/-- The instants after the clean window's. -/
theorem settleLine_after (s : State) : R s (Machine.superframeEnd false (Machine.alignmentTest (Machine.superframeStart []
    (Machine.strictConfirmTest false (Machine.confirmTest (Machine.mimic (Machine.candidatePosition s))))))) :=
  h.trans (h.trans (h.trans (h.trans (h.trans (h.trans (h.candidatePosition s) (h.mimic _)) (h.confirmTest _))
    (h.strictConfirmTest _ _)) (h.superframeStart _ _)) (h.alignmentTest _)) (h.superframeEnd _ _)

theorem settleLine (s : State) : R s (settleLine s) :=
  h.trans (h.trans (h.silenceEntry s) (h.cleanWindow _)) (h.settleLine_after _)

end EventsKeep

end Sys2Proof.Machine
end

section
/-! PROOFS. What every answer to a request, and then every command and every step keeps, from what the shared operations keep. -/

namespace Sys2Proof.Machine

/-! ## Relations that hold wherever something only sends -/

/-- A relation that holds across everything that only sends, and across the moves of the framer, the clock and the ports' ticks. -/
theorem EventsKeep.of_sends {R : State → State → Prop} (refl : ∀ s, R s s) (trans : ∀ {s t u}, R s t → R t u → R s u)
    (framer : ∀ s f, FramerMoves s.framer f → R s (s.setFramer f)) (clock : ∀ s c, ClockMoves s.clock c → R s (s.setClock c))
    (ports : ∀ n s, R s (Machine.portTick n s)) (sends : ∀ s t, Sends s t → R s t) : EventsKeep R where
  refl := refl
  trans := trans
  framer := framer
  clock := clock
  portTick := ports
  raise s e := sends _ _ (raise_sends s e)
  evaluateSlot slot s := sends _ _ (evaluateSlot_sends slot s)
  laneTick n s := sends _ _ (laneTick_sends n s)
  oweLane n s := sends _ _ (setLane_sends s n _)
  countDownLane n s := sends _ _ (countDownLane_sends n s)
  timeOutWithdrawals n s := sends _ _ (timeOutWithdrawals_sends n s)
  timeOutClearing n s := sends _ _ (timeOutClearing_sends n s)
  recheckAt n s := sends _ _ (recheckAt_sends n s)

/-! ## The end of a bit period -/

theorem cleanWindow_windowOpen {s : State} (hr : s.running = true) : (cleanWindow s).framer.windowOpen := by
  unfold cleanWindow
  split
  · exact nofun
  · next hno =>
    intro hsilent
    have h : ¬ Config.cleanWindow ≤ s.framer.clean := by simpa [hr, hsilent] using hno
    exact Nat.lt_of_not_le h

theorem windowOpen_events : EventsKeep (fun s t => s.framer.windowOpen → t.framer.windowOpen) :=
  .of_sends (fun _ => id) (fun h k => k ∘ h) (fun _ _ h => h.window) (fun _ _ _ => id)
    (fun n s => by rw [portTick_framer]; exact id) (fun _ _ h => by rw [h.framer]; exact id)

/-- Once the instants due have been taken no clean window is complete (R3). -/
theorem settleLine_windowOpen {s : State} (hr : s.running = true) : (settleLine s).framer.windowOpen :=
  windowOpen_events.settleLine_after _ (cleanWindow_windowOpen ((silenceEntry_works s).running_eq.trans hr))

/-- The end of a period keeps the framer's records in their ranges where no clean window is complete (R1, R3). -/
theorem endPeriod_lawful {f : Framer} (hw : f.windowOpen) (h : FramerLawful f) : FramerLawful f.endPeriod.gather := by
  obtain ⟨h1, h2, h3, h4, h5, h6, h7, h8, h9⟩ := h
  have hended : FramerLawful f.endPeriod := by
    refine ⟨?history, Nat.mod_lt _ (by decide), h3, ?candidate, h5, h6, h7, ?clean, h9⟩
    case history => simp [Framer.endPeriod, h1]
    case candidate =>
      rw [← h4]
      simp only [Framer.endPeriod]
      cases f.candidate <;> rfl
    case clean =>
      simp only [Framer.endPeriod]
      split
      · next hs => have := hw hs.1; omega
      · exact Nat.zero_le _
  generalize f.endPeriod = g at hended
  unfold Framer.gather
  split
  · next c _ hc =>
    split
    · obtain ⟨h1, h2, h3, h4, h5, h6, h7, h8, h9⟩ := hended
      refine ⟨h1, h2, h3, ?_, h5, h6, h7, h8, h9⟩
      rw [hc] at h4
      exact h4
    · exact hended
  · split <;> exact hended
  · exact hended

/-! ## Answers to requests -/

/-- A relation that holds across every answer's own operations. -/
structure AnswersKeep (R : State → State → Prop) : Prop extends EventsKeep R where
  screen : ∀ n r s, R s (answerScreen n r s).1
  loadKey : ∀ f kind s, R s (loadKey f kind s).1
  revokeKey : ∀ slot kind s, R s (revokeKey slot kind s).1
  purgeKey : ∀ slot kind s, R s (purgeKey slot kind s).1
  setPort : ∀ port identity role classes kind s, R s (setPort port identity role classes kind s).1
  laneParams : ∀ n wt l dt s, R s (s.setLane n ((s.lane n).taking wt l dt))
  restoreLane : ∀ lane s, R s (restoreLane lane s).1
  voidHoldings : ∀ lane s, R s (voidHoldings lane s).1
  flags : ∀ s lock mask sticky, R s { s with policyLock := lock, mask := mask, sticky := sticky }
  clearKeyMark : ∀ slot s, R s (clearKeyMark s slot)
  clearLaneMark : ∀ named n s, R s (clearLaneMark named n s)
  zeroCounters : ∀ s, R s (zeroCounters s)

namespace AnswersKeep

variable {R : State → State → Prop} (h : AnswersKeep R)
include h

theorem setClockParameters (r uc k e : Option Nat) (checkLoss : Option Bool) (failTime : Option Nat) (strict : Option Bool)
    (s : State) : R s (setClockParameters r uc k e checkLoss failTime strict s).1 := by
  unfold Machine.setClockParameters
  cases uc with
  | none => exact h.clock s _ (params_moves s.clock rfl)
  | some v =>
    have hmoves := ceiling_moves s.clock (p := s.clock.params.taking r (some v) k e checkLoss failTime strict)
      (clampTo_bounds (by decide) v)
    dsimp only
    rw [Option.isSome_some, if_pos rfl]
    unfold compareCeiling
    split
    · next hsame =>
      rw [setClock_clock] at hsame
      rw [hsame] at hmoves
      exact h.clock s _ hmoves
    · exact h.trans (h.clock s _ hmoves) (h.announceTimeState _ _ _)

theorem seedTime (value s' : Nat) (kind : Byte) (s : State) : R s (seedTime value s' kind s).1 := by
  unfold Machine.seedTime
  split
  · exact h.trans (h.clock s _ (seeded_moves value (clampTo_bounds (by decide) s').2)) (h.announceTimeState _ _ _)
  · exact h.refl s

theorem reframe (s : State) : R s (reframe s).1 := by
  unfold Machine.reframe
  dsimp only
  split
  · exact h.refl s
  · refine h.framer s _ ⟨id, id⟩
  · exact h.framer s _ (dropCandidate_moves _)
  · exact h.loseAlignment _ s

theorem setLaneParameters (lane : Byte) (wt l dt : Option Nat) (s : State) : R s (setLaneParameters lane wt l dt s).1 := by
  unfold Machine.setLaneParameters
  split
  · exact h.refl s
  · next named hnamed =>
    clear hnamed
    dsimp only
    induction named generalizing s with
    | nil => exact h.refl s
    | cons n named ih => exact h.trans (h.laneParams n wt l dt s) (ih _)

theorem clearSticky (kinds : KindMap) (lanes : ScreenMap) (slots : List Nat) (kind : Byte) (s : State) :
    R s (clearSticky kinds lanes slots kind s).1 := by
  have hslots (s : State) : R s (slots.foldl Machine.clearKeyMark s) := by
    induction slots generalizing s with
    | nil => exact h.refl s
    | cons slot slots ih => exact h.trans (h.clearKeyMark slot s) (ih _)
  unfold Machine.clearSticky
  split
  · exact h.refl s
  · exact h.trans (h.trans (h.flags s s.policyLock s.mask _) (hslots _)) (h.forLanes (h.clearLaneMark lanes) _)

theorem management (r : Request) (s : State) : R s (answerManagement r s).1 := by
  cases r with
  | laneStatus lane =>
    change R s (laneStatus .mgmt lane s).1
    rw [laneStatus_same]
    exact h.refl s
  | keyStatus slot =>
    change R s (keyStatus slot.toNat _ s).1
    rw [keyStatus_same]
    exact h.refl s
  | loadKey => exact h.loadKey _ _ s
  | revokeKey => exact h.revokeKey _ _ s
  | purgeKey => exact h.purgeKey _ _ s
  | setPort => exact h.setPort _ _ _ _ _ s
  | lockPolicy => exact h.flags s true s.mask s.sticky
  | setClockParameters => exact h.setClockParameters _ _ _ _ _ _ _ s
  | setLaneParameters => exact h.setLaneParameters _ _ _ _ s
  | seedTime => exact h.seedTime _ _ _ s
  | reframe => exact h.reframe s
  | restoreLane => exact h.restoreLane _ s
  | voidHoldings => exact h.voidHoldings _ s
  | clearSticky => exact h.clearSticky _ _ _ _ s
  | setEventMask kinds =>
    change R s (setEventMask kinds _ s).1
    unfold setEventMask
    split
    · exact h.refl s
    · exact h.flags s s.policyLock _ s.sticky
  | clearCounters => exact h.zeroCounters s
  | _ => exact h.refl s

theorem answer (p : PortId) (r : Request) (s : State) : R s (answer p r s).1 := by
  cases p with
  | mgmt => exact h.management r s
  | screen n => exact h.screen n r s

end AnswersKeep

/-! ## Commands -/

/-- A relation that holds across the operations of every command. -/
structure CommandsKeep (R : State → State → Prop) : Prop extends EventsKeep R where
  period : ∀ s, s.framer.windowOpen → R s (s.setFramer s.framer.endPeriod.gather)
  handle : ∀ p tag r s, (s.link p).canTake = true → R s (handle p tag r s)
  frameError : ∀ p s, R s (frameError p s)
  receiver : ∀ s p rx, R s (s.setReceiver p rx)
  fill : ∀ s p x, R s (s.setLink p { s.link p with buffer := some x })
  sent : ∀ s p f rest, (s.link p).tx = f :: rest → R s (s.setLink p { s.link p with tx := rest })
  holdLevel : ∀ s level ms, R s { s with siteHold := level, siteStableMs := ms }
  assertAt : ∀ n s, R s (assertAt n s)
  releaseAt : ∀ n s, R s (releaseAt n s)
  supply : ∀ s x, R s { s with supply := x }
  restart : ∀ s, R s (restartBlocks s)

namespace CommandsKeep

variable {R : State → State → Prop} (h : CommandsKeep R)
include h

/-! ### The line and the tick -/

theorem endPeriod {s : State} (hr : s.running = true) : R s (endPeriod s) :=
  h.trans (h.settleLine s) (h.period _ (settleLine_windowOpen hr))

theorem closePeriod (s : State) : R s (closePeriod s) := by
  unfold Machine.closePeriod
  split
  · next hc => exact h.endPeriod (Bool.and_eq_true_iff.mp hc).1
  · exact h.refl s

theorem settleDue (s : State) : R s (settleDue s) :=
  h.trans (h.trans (h.closePeriod s) (h.settleLine _)) (h.settleTick _)

theorem bitPeriodEnd (s : State) : R s (bitPeriodEnd s) := by
  unfold Machine.bitPeriodEnd
  split
  · next hr => exact h.endPeriod hr
  · exact h.refl s

theorem endPeriods (k : Nat) {s : State} (hr : s.running = true) : R s (endPeriods k s) := by
  induction k generalizing s with
  | zero => exact h.refl s
  | succ k ih => exact h.trans (h.endPeriod hr) (ih ((endPeriod_works s).running_eq.trans hr))

theorem lineTransition (ns : Nat) (s : State) : R s (lineTransition ns s) := by
  have hmoves (f : Framer) (phase : Nat) : FramerMoves f (f.transition phase) := by
    unfold Framer.transition
    repeat' split
    all_goals exact ⟨id, id⟩
  have hclosed : Works s (Machine.closePeriod s) := by
    unfold Machine.closePeriod
    split
    · exact endPeriod_works s
    · exact Works.refl s
  unfold Machine.lineTransition
  split
  · next hr =>
    exact h.trans (h.trans (h.closePeriod s) (h.endPeriods _ (hclosed.running_eq.trans hr))) (h.framer _ _ (hmoves _ _))
  · exact h.refl s

theorem restartCount (s : State) (osc : Nat) : R s (s.setClock { s.clock with osc := osc }) :=
  h.clock s _ ⟨id, Nat.le_refl _⟩

theorem oscillatorTick (apart : List TickPart) (s : State) : R s (oscillatorTick apart s) := by
  unfold Machine.oscillatorTick
  split
  · exact h.trans (h.restartCount s _) (h.tick apart _)
  · exact h.refl s

theorem ceilingTick (apart : List TickPart) (s : State) : R s (ceilingTick apart s) := by
  unfold Machine.ceilingTick
  dsimp only
  split
  · exact h.trans (h.restartCount s _) (h.tick apart _)
  · exact h.refl s

theorem oscillatorCycle (s : State) : R s (oscillatorCycle s) := by
  rw [oscillatorCycle_cases]
  split
  · split
    · exact h.restartCount s _
    · exact h.trans (h.restartCount s _) (h.oscillatorTick [] _)
  · exact h.refl s

theorem takeReferenceFailed (s : State) : R s (takeReferenceFailed s) := by
  unfold Machine.takeReferenceFailed
  split
  · exact h.failTick s
  · exact h.refl s

theorem takeBoundary (n : LaneIx) (s : State) : R s (takeBoundary n s) := by
  unfold Machine.takeBoundary
  split
  · exact h.laneTick n s
  · exact h.refl s

theorem takeHoldLimit (n : LaneIx) (s : State) : R s (takeHoldLimit n s) := by
  unfold Machine.takeHoldLimit
  split
  · exact h.laneTick n s
  · exact h.refl s

theorem takeWithdrawalTimeout (n : LaneIx) (s : State) : R s (takeWithdrawalTimeout n s) := by
  unfold Machine.takeWithdrawalTimeout
  split
  · exact h.timeOutWithdrawals n s
  · exact h.refl s

theorem takeClearingTimeout (n : LaneIx) (s : State) : R s (takeClearingTimeout n s) := by
  unfold Machine.takeClearingTimeout
  split
  · exact h.timeOutClearing n s
  · exact h.refl s

/-! ### The site hold line -/

theorem changeHoldLine (asserted : Bool) (s : State) : R s (changeHoldLine asserted s) := by
  unfold Machine.changeHoldLine
  split
  · exact h.refl s
  · exact h.trans (h.supply s _) (h.holdLevel _ s.siteHold 0)

theorem takeAssertion (ms : Nat) (s : State) : R s (takeAssertion ms s) := by
  unfold Machine.takeAssertion measureHold
  split
  · dsimp only
    split
    · exact h.trans (h.holdLevel s true _) (h.forLanes h.assertAt _)
    · exact h.holdLevel s s.siteHold _
  · exact h.refl s

theorem takeRelease (ms : Nat) (s : State) : R s (takeRelease ms s) := by
  unfold Machine.takeRelease measureHold
  split
  · dsimp only
    split
    · exact h.trans (h.holdLevel s false _) (h.forLanes h.releaseAt _)
    · exact h.holdLevel s s.siteHold _
  · exact h.refl s

/-! ### The ports -/

theorem takeRequest (p : PortId) (s : State) : R s (takeRequest p s) := by
  unfold Machine.takeRequest
  split
  · next hc =>
    split
    · exact h.handle _ _ _ s (Bool.and_eq_true_iff.mp hc).2
    · exact h.refl s
  · exact h.refl s

theorem takeDue (p : PortId) (s : State) : R s (takeDue p s) := by
  unfold Machine.takeDue
  split
  · exact h.refl s
  · exact h.takeRequest p s

theorem enterBuffer (p : PortId) (tag : Byte) (r : Request) (s : State) : R s (enterBuffer p tag r s) := by
  unfold Machine.enterBuffer
  split
  · exact h.fill s p _
  · exact h.frameError p s

theorem arrive (p : PortId) (tag : Byte) (r : Request) (s : State) : R s (arrive p tag r s) := by
  unfold Machine.arrive
  split
  · exact h.trans (h.trans (h.takeRequest p s) (h.enterBuffer p tag r _)) (h.takeRequest p _)
  · exact h.refl s

theorem judgeFrame (p : PortId) (last : Bool) (chars : List Byte) (unsealed : Option Material) (s : State) :
    R s (judgeFrame p last chars unsealed s) := by
  unfold Machine.judgeFrame
  dsimp only
  split
  · next tag r _ =>
    refine h.trans (h.trans (h.takeRequest p s) (h.enterBuffer p tag r _)) ?_
    split
    · exact h.takeDue p _
    · exact h.takeRequest p _
  · exact h.trans (h.takeRequest p s) (h.frameError p _)

theorem receive (p : PortId) (last : Bool) (unsealed : Option Material) (c : Byte) (s : State) :
    R s (receive p last unsealed c s) := by
  unfold Machine.receive
  split
  · exact h.receiver s p _
  · split
    · exact h.trans (h.receiver s p _) (h.frameError p _)
    · exact h.receiver s p _
  · split
    · exact h.trans (h.receiver s p _) (h.judgeFrame p last _ unsealed _)
    · exact h.receiver s p _

theorem receiveRun (p : PortId) (ends : Bool) (unsealed : Option Material) (chars : List Byte) (s : State) :
    R s (receiveRun p ends unsealed chars s) := by
  induction chars generalizing s with
  | nil => exact h.refl s
  | cons c rest ih => exact h.trans (h.receive p _ unsealed c s) (ih _)

theorem receiveAll (p : PortId) (unsealed : Option Material) (chars : List Byte) (s : State) :
    R s (receiveAll p unsealed chars s) := by
  unfold Machine.receiveAll
  split
  · exact h.receiveRun p _ _ _ s
  · exact h.refl s

theorem receiveGap (p : PortId) (before : List Byte) (gapMicros : Nat) (c : Byte) (unsealed : Option Material) (s : State) :
    R s (receiveGap p before gapMicros c unsealed s) := by
  have hgap (s : State) : R s (gapEnds p s) := by
    unfold gapEnds
    split
    · exact h.refl s
    · exact h.trans (h.receiver s p _) (h.frameError p _)
  unfold Machine.receiveGap
  split
  · refine h.trans (h.receiveRun p false unsealed before s) ?_
    split
    · exact h.trans (hgap _) (h.receiver _ p _)
    · exact h.receive p _ _ _ _
  · exact h.refl s

theorem sendFrame (p : PortId) (s : State) : R s (sendFrame p s) := by
  unfold Machine.sendFrame
  split
  · split
    · exact h.refl s
    · next f rest htx => exact h.trans (h.sent s p f rest htx) (h.takeDue p _)
  · exact h.refl s

/-! ### The supplies -/

theorem clockLeavesMain (regress : Bool) (s : State) : R s (clockLeavesMain regress s) := by
  have hforget (s : State) (c : Clock) (hc : ClockMoves s.clock c) :
      R s (s.setClock { c with prev := none, miss := 0, regress := regress }) :=
    h.clock s _ (hc.trans ⟨id, Nat.le_refl _⟩)
  unfold Machine.clockLeavesMain
  by_cases ht : s.clock.time = .assured
  · simp only [if_pos ht]
    exact h.trans (hforget s _ (toHoldover_moves ht)) (h.evaluate _)
  · simp only [if_neg ht]
    exact hforget s _ (.refl _)

theorem mainReset (s : State) : R s (mainReset s) :=
  h.trans (h.trans (h.supply s _) (h.clockLeavesMain false _)) (h.restart _)

theorem endReset (fit1 fit0 : Bool) (s : State) : R s (endReset fit1 fit0 s) := by
  unfold Machine.endReset
  dsimp only
  split
  · exact h.trans (h.supply s _) (h.raise _ _)
  · exact h.supply s _

theorem failMain (s : State) : R s (failMain s) := by
  unfold Machine.failMain
  split
  · exact h.trans (h.trans (h.trans (h.settleDue s) (h.supply _ _)) (h.clockLeavesMain _ _)) (h.restart _)
  · exact h.refl s

theorem spoilMarker (s : State) : R s (spoilMarker s) := by
  unfold Machine.spoilMarker
  split
  · exact h.refl s
  · exact h.supply s _

theorem returnMain (fit1 fit0 : Bool) (s : State)
    (hclear : s.supply.markerGood = false → ∀ u, R u (clearRetained u)) : R s (returnMain fit1 fit0 s) := by
  have hread (u : State) (hu : u.supply.markerGood = s.supply.markerGood) : R u (readMarker u) := by
    unfold readMarker
    split
    · exact h.refl u
    · next hbad => exact hclear (by rw [← hu]; simpa using hbad) u
  unfold Machine.returnMain
  split
  · exact h.refl s
  · have hreset := h.trans (h.trans (h.supply s { s.supply with mainOn := true }) (hread _ rfl)) (h.mainReset _)
    dsimp only
    split
    · exact hreset
    · exact h.trans hreset (h.endReset _ _ _)

theorem assertReset (s : State) : R s (assertReset s) := by
  unfold Machine.assertReset
  split
  · exact h.refl s
  · have hpin := h.trans (h.settleDue s) (h.supply _ { (Machine.settleDue s).supply with resetPin := true })
    dsimp only
    split
    · exact h.trans hpin (h.mainReset _)
    · exact hpin

theorem releaseReset (fit1 fit0 : Bool) (s : State) : R s (releaseReset fit1 fit0 s) := by
  unfold Machine.releaseReset
  split
  · have hpin := h.supply s { s.supply with resetPin := false }
    dsimp only
    split
    · exact h.trans hpin (h.endReset _ _ _)
    · exact hpin
  · exact h.refl s

/-! ### Every command, and every step -/

/-- Every command but a main power-up, and that where its own reading of the marker is kept. -/
theorem exec_of_return (c : Instr) (s : State) (hreturn : ∀ fit1 fit0, R s (Machine.returnMain fit1 fit0 s)) :
    ∃ t, Machine.exec c s = .next t ∧ R s t := by
  cases c with
  | silenceEntry => exact ⟨_, rfl, h.silenceEntry s⟩
  | cleanWindow => exact ⟨_, rfl, h.cleanWindow s⟩
  | candidatePosition => exact ⟨_, rfl, h.candidatePosition s⟩
  | mimic => exact ⟨_, rfl, h.mimic s⟩
  | confirmTest => exact ⟨_, rfl, h.confirmTest s⟩
  | strictConfirmTest lanesFirst => exact ⟨_, rfl, h.strictConfirmTest lanesFirst s⟩
  | superframeStart apart => exact ⟨_, rfl, h.superframeStart apart s⟩
  | alignmentTest => exact ⟨_, rfl, h.alignmentTest s⟩
  | superframeEnd lanesFirst => exact ⟨_, rfl, h.superframeEnd lanesFirst s⟩
  | referenceFailed => exact ⟨_, rfl, h.takeReferenceFailed s⟩
  | elapsedTick apart => exact ⟨_, rfl, h.oscillatorTick apart s⟩
  | ceilingPassed apart => exact ⟨_, rfl, h.ceilingTick apart s⟩
  | mainPowerFail => exact ⟨_, rfl, h.failMain s⟩
  | validityMarkerBad => exact ⟨_, rfl, h.spoilMarker s⟩
  | mainPowerUp fit1 fit0 => exact ⟨_, rfl, hreturn fit1 fit0⟩
  | resetAssert => exact ⟨_, rfl, h.assertReset s⟩
  | resetRelease fit1 fit0 => exact ⟨_, rfl, h.releaseReset fit1 fit0 s⟩
  | boundary n => exact ⟨_, rfl, h.takeBoundary n s⟩
  | siteHoldLineChange asserted => exact ⟨_, rfl, h.changeHoldLine asserted s⟩
  | siteHoldAssertion ms => exact ⟨_, rfl, h.takeAssertion ms s⟩
  | siteHoldRelease ms => exact ⟨_, rfl, h.takeRelease ms s⟩
  | holdLimit n => exact ⟨_, rfl, h.takeHoldLimit n s⟩
  | withdrawalTimeout n => exact ⟨_, rfl, h.takeWithdrawalTimeout n s⟩
  | clearingTimeout n => exact ⟨_, rfl, h.takeClearingTimeout n s⟩
  | frameComplete p chars unsealed => exact ⟨_, rfl, h.receiveAll p unsealed chars s⟩
  | lengthAbove96 p chars unsealed => exact ⟨_, rfl, h.receiveAll p unsealed chars s⟩
  | gapError p before gapMicros char unsealed => exact ⟨_, rfl, h.receiveGap p before gapMicros char unsealed s⟩
  | requestTaken p => exact ⟨_, rfl, h.takeRequest p s⟩
  | frameSent p => exact ⟨_, rfl, h.sendFrame p s⟩
  | bitPeriodEnd => exact ⟨_, rfl, h.bitPeriodEnd s⟩
  | referenceLineTransition ns => exact ⟨_, rfl, h.lineTransition ns s⟩
  | _ => exact ⟨_, rfl, h.arrive _ _ _ s⟩

theorem exec (c : Instr) (s : State) (hclear : s.supply.markerGood = false → ∀ u, R u (clearRetained u)) :
    ∃ t, Machine.exec c s = .next t ∧ R s t :=
  h.exec_of_return c s fun fit1 fit0 => h.returnMain fit1 fit0 s hclear

/-- A step keeps what its command keeps, where the queue does not enter. -/
theorem step (hreturn : ∀ fit1 fit0 s, R s (Machine.returnMain fit1 fit0 s)) (hqueue : ∀ s q, R s { s with pending := q })
    (s : State) : ∃ t, step s = .next t ∧ R s t := by
  unfold Machine.step
  split
  · exact ⟨_, rfl, h.oscillatorCycle s⟩
  · next c rest hpending =>
    obtain ⟨t, ht, hR⟩ := h.exec_of_return c { s with pending := rest } (fun fit1 fit0 => hreturn fit1 fit0 _)
    exact ⟨t, ht, h.trans (hqueue s rest) hR⟩

end CommandsKeep

/-- An invariant that every step keeps as a relation is an invariant of the step. -/
theorem step_keeps_of_return {P : State → Prop} (h : CommandsKeep (fun s t => P s → P t))
    (hreturn : ∀ fit1 fit0 s, P s → P (returnMain fit1 fit0 s)) (hqueue : ∀ s q, P s → P { s with pending := q }) (s t : State)
    (hs : P s) (hstep : step s = .next t) : P t := by
  obtain ⟨u, hu, hP⟩ := h.step hreturn hqueue s
  rw [hu] at hstep
  injection hstep with heq
  exact heq ▸ hP hs

theorem step_keeps_of_commands {P : State → Prop} (h : CommandsKeep (fun s t => P s → P t)) (hclear : ∀ u, P u → P (clearRetained u))
    (hqueue : ∀ s q, P s → P { s with pending := q }) (s t : State) (hs : P s) (hstep : step s = .next t) : P t :=
  step_keeps_of_return h (fun fit1 fit0 s => h.returnMain fit1 fit0 s fun _ => hclear) hqueue s t hs hstep

end Sys2Proof.Machine
end

section
/-! PROOFS. The command queue, the clock and the framer under every command: what depends on them alone (O3, O8, O10). -/

namespace Sys2Proof.Machine

/-! ## What else only sends -/

theorem rejudgePort_sends (n : LaneIx) (old : Role) (s : State) : Sends s (rejudgePort n old s) := by
  have hbound (identity : Identity) : Sends s (rejudgeBound n old identity s) := by
    have hunbound := (setPortState_sends s n .unbound).trans (raise_sends _ (.portUnbound n .setPort identity))
    unfold rejudgeBound
    dsimp only
    split
    · split
      · exact hunbound.trans (laneUnbind_sends n _)
      · exact hunbound
    · split
      · exact laneUnbind_sends n s
      · split
        · exact laneBind_sends n s
        · exact Sends.refl s
  unfold rejudgePort
  dsimp only
  split
  · exact Sends.refl s
  · split
    · exact Sends.refl s
    · exact setPortState_sends s n _
  · exact hbound _

/-- A SET PORT writes an entry, and then sends (R169). -/
theorem setPort_cases (port : Byte) (identity : Option Identity) (role classes kind : Byte) (s : State) :
    (setPort port identity role classes kind s).1 = s
      ∨ ∃ n entry, (s.lane n).state.running = false ∧ (setPort port identity role classes kind s).1
          = rejudgePort n (s.port n).entry.role (s.setPort n { s.port n with entry := entry }) := by
  unfold setPort
  split
  · exact .inl rfl
  · split
    · split
      · exact .inl rfl
      · split
        · exact .inl rfl
        · next hrun => exact .inr ⟨_, _, by simpa using hrun, rfl⟩
    · exact .inl rfl

theorem clearKeyMark_sends (slot : Nat) (s : State) : Sends s (clearKeyMark s slot) := by
  obtain ⟨keys, h⟩ := clearKeyMark_frame s slot
  rw [h]
  exact setKeys_sends s keys

theorem clearLaneMark_sends (named : ScreenMap) (n : LaneIx) (s : State) : Sends s (clearLaneMark named n s) := by
  unfold clearLaneMark
  split
  · exact setLane_sends s n _
  · exact Sends.refl s

theorem assertAt_sends (n : LaneIx) (s : State) : Sends s (assertAt n s) := by
  unfold assertAt
  split
  · exact enterHeld_sends _ _ _ _
  · exact setLane_sends _ _ _
  all_goals exact Sends.refl s

theorem releaseAt_sends (n : LaneIx) (s : State) : Sends s (releaseAt n s) := by
  unfold releaseAt
  dsimp only
  split
  · exact (setLane_sends _ _ _).trans (releaseLastHold_sends _ _)
  · exact setLane_sends _ _ _

/-! ## A frame error at a screen port (R160 to R162) -/

/-- A screen port with one frame error more: a soft error, and one in the current slice. -/
def ScreenPort.erred (p : ScreenPort) : ScreenPort :=
  { p with link := { p.link with softErrors := bump p.link.softErrors }, slices := addError p.slices }

theorem frameError_screen (n : LaneIx) (s : State) : frameError (.screen n) s =
    if (s.port n).erred.overThreshold then degrade n (s.setPort n (s.port n).erred) else s.setPort n (s.port n).erred := by
  simp only [frameError, State.setLink, State.link, port_setPort_same, setPort_setPort]
  rfl

/-! ## Relations between framers, clocks and queues -/

/-- Framer, clock and queue stay. -/
structure SameCore (s t : State) : Prop where
  framer : t.framer = s.framer
  clock : t.clock = s.clock
  pending : t.pending = s.pending

theorem Sends.sameCore {s t : State} (h : Sends s t) : SameCore s t := ⟨h.framer, h.clock, h.pending⟩

theorem SameCore.trans {s t u : State} (h : SameCore s t) (k : SameCore t u) : SameCore s u :=
  ⟨k.framer.trans h.framer, k.clock.trans h.clock, k.pending.trans h.pending⟩

theorem setLink_sameCore (s : State) (p : PortId) (l : Link) : SameCore s (s.setLink p l) :=
  ⟨setLink_framer s p l, setLink_clock s p l, setLink_pending s p l⟩

theorem place_sameCore (s : State) (p : PortId) (f : TxFrame) : SameCore s (s.place p f) := setLink_sameCore s p _

theorem portTick_sameCore (n : LaneIx) (s : State) : SameCore s (portTick n s) := by
  obtain ⟨p, h⟩ := portTick_quiet n s
  exact ⟨h.framer, h.clock, h.pending⟩

theorem setPort_sameCore (s : State) (n : LaneIx) (p : ScreenPort) : SameCore s (s.setPort n p) := ⟨rfl, rfl, rfl⟩

theorem frameError_sameCore (p : PortId) (s : State) : SameCore s (frameError p s) := by
  have hdegrade (n : LaneIx) (s : State) : SameCore s (degrade n s) := by
    unfold degrade
    exact (setPort_sameCore s n _).trans (raise_sends _ _).sameCore
  cases p with
  | mgmt => exact setLink_sameCore s .mgmt _
  | screen n =>
    rw [frameError_screen]
    split
    · exact (setPort_sameCore s n _).trans (hdegrade n _)
    · exact setPort_sameCore s n _

/-- A relation between framers, clocks and queues that the moves of framer and clock keep. -/
structure CoreRelation (R : State → State → Prop) : Prop where
  trans : ∀ {s t u}, R s t → R t u → R s u
  framer : ∀ s f, FramerMoves s.framer f → R s (s.setFramer f)
  clock : ∀ s c, ClockMoves s.clock c → R s (s.setClock c)
  same : ∀ {s t}, SameCore s t → R s t
  period : ∀ s, s.framer.windowOpen → R s (s.setFramer s.framer.endPeriod.gather)
  restart : ∀ s, R s (restartBlocks s)

namespace CoreRelation

variable {R : State → State → Prop} (h : CoreRelation R)
include h

theorem sends {s t : State} (hst : Sends s t) : R s t := h.same hst.sameCore

theorem answersKeep : AnswersKeep R where
  toEventsKeep := .of_sends (fun _ => h.same ⟨rfl, rfl, rfl⟩) h.trans h.framer h.clock
    (fun n s => h.same (portTick_sameCore n s)) (fun _ _ => h.sends)
  screen n r s := h.sends (answerScreen_sends n r s)
  loadKey f kind s := h.sends (loadKey_sends f kind s)
  revokeKey slot kind s := h.sends (revokeKey_sends slot kind s)
  purgeKey slot kind s := h.sends (purgeKey_sends slot kind s)
  setPort port identity role classes kind s := by
    rcases setPort_cases port identity role classes kind s with hsame | ⟨n, entry, -, hwritten⟩
    · rw [hsame]; exact h.same ⟨rfl, rfl, rfl⟩
    · rw [hwritten]; exact h.trans (h.same (setPort_sameCore s n _)) (h.sends (rejudgePort_sends n _ _))
  laneParams _ _ _ _ _ := h.same ⟨rfl, rfl, rfl⟩
  restoreLane lane s := h.sends (restoreLane_sends lane s)
  voidHoldings lane s := h.sends (voidHoldings_sends lane s)
  flags _ _ _ _ := h.same ⟨rfl, rfl, rfl⟩
  clearKeyMark slot s := h.sends (clearKeyMark_sends slot s)
  clearLaneMark named n s := h.sends (clearLaneMark_sends named n s)
  zeroCounters s := h.trans (h.framer s { s.framer with counters := ⟨0, 0, 0, 0, 0, 0⟩ } ⟨id, id⟩) (h.same ⟨rfl, rfl, rfl⟩)

theorem commandsKeep : CommandsKeep R where
  toEventsKeep := h.answersKeep.toEventsKeep
  period := h.period
  handle p tag r s _ := by
    have hbegin : R s (beginTaking p s) :=
      h.same ((setLink_sameCore s p { s.link p with buffer := none }).trans ⟨rfl, rfl, rfl⟩)
    have hreply (t : State) (f : TxFrame) : R t { t.place p f with kept := none } :=
      h.same ((place_sameCore t p f).trans ⟨rfl, rfl, rfl⟩)
    exact h.trans (h.trans hbegin (h.answersKeep.answer p r _)) (hreply _ _)
  frameError p s := h.same (frameError_sameCore p s)
  receiver s p _ := h.same (setLink_sameCore s p _)
  fill s p _ := h.same (setLink_sameCore s p _)
  sent s p _ _ _ := h.same (setLink_sameCore s p _)
  holdLevel _ _ _ := h.same ⟨rfl, rfl, rfl⟩
  assertAt n s := h.sends (assertAt_sends n s)
  releaseAt n s := h.sends (releaseAt_sends n s)
  supply _ _ := h.same ⟨rfl, rfl, rfl⟩
  restart := h.restart

end CoreRelation

/-! ## The queue -/

theorem pending_core : CoreRelation (fun s t => t.pending = s.pending) where
  trans h k := k.trans h
  framer _ _ _ := rfl
  clock _ _ _ := rfl
  same h := h.pending
  period _ _ := rfl
  restart _ := rfl

/-- Settles O3: no command touches the queue. -/
theorem everyCommandHasANextState : Obligations.EveryCommandHasANextState :=
  fun c s => pending_core.commandsKeep.exec c s (fun _ _ => rfl)

/-! ## The clock and the framer -/

theorem clockLawful_core : CoreRelation (fun s t => ClockLawful s.clock → ClockLawful t.clock) where
  trans h k := k ∘ h
  framer _ _ _ := id
  clock _ _ h := h.lawful
  same h := by rw [h.clock]; exact id
  period _ _ := id
  restart _ := id

theorem afterReset_framerLawful (p : ClockParams) : FramerLawful (.afterReset p) := by
  refine ⟨List.length_replicate, ?_⟩
  simp [Framer.afterReset]

theorem framerLawful_core : CoreRelation (fun s t => FramerLawful s.framer → FramerLawful t.framer) where
  trans h k := k ∘ h
  framer _ _ h := h.lawful
  clock _ _ _ := id
  same h := by rw [h.framer]; exact id
  period _ h := endPeriod_lawful h
  restart s _ := afterReset_framerLawful s.clock.params

theorem cleared_lawful : ClockLawful Clock.cleared := by decide

/-- Settles O8: every move of the clock keeps to the table of its time states, and every move of the framer keeps its ranges. -/
theorem stepKeepsClock : Obligations.StepKeepsClock :=
  ⟨step_keeps_of_commands clockLawful_core.commandsKeep (fun _ _ => cleared_lawful) (fun _ _ => id),
    step_keeps_of_commands framerLawful_core.commandsKeep (fun _ => id) (fun _ _ => id)⟩

/-! ## The time floor -/

theorem floor_core : CoreRelation (fun s t => s.clock.floor ≤ t.clock.floor) where
  trans h k := Nat.le_trans h k
  framer _ _ _ := Nat.le_refl _
  clock _ _ h := h.floor
  same h := Nat.le_of_eq (by rw [h.clock])
  period _ _ := Nat.le_refl _
  restart _ := Nat.le_refl _

/-- Settles O10: only the clearing of the Retained Domain takes the floor back, and a good marker shuts it out. -/
theorem floorNeverDecreases : Obligations.FloorNeverDecreases := by
  intro c s t hgood ht
  obtain ⟨u, hu, hfloor⟩ := floor_core.commandsKeep.exec c s (fun hbad => absurd (hbad.symm.trans hgood) (by decide))
  rw [hu] at ht
  injection ht with heq
  exact heq ▸ hfloor

end Sys2Proof.Machine
end

section
/-! PROOFS. The transmit lists under every command: a notice never takes the last place, and a reply finds the place kept for it
(R163, R164; O5). -/

namespace Sys2Proof.Machine

/-! ## Lists that only notices lengthen -/

/-- No list is longer than it was, or it keeps to 32 less the place kept (R163, R164). -/
structure ListsGrow (s t : State) : Prop where
  kept : t.kept = s.kept
  tx : ∀ p, (t.link p).tx.length ≤ (s.link p).tx.length ∨ (t.link p).tx.length + s.keptOn p ≤ 32

theorem ListsGrow.of_tx {s t : State} (hk : t.kept = s.kept) (h : ∀ p, (t.link p).tx = (s.link p).tx) : ListsGrow s t :=
  ⟨hk, fun p => .inl (by rw [h p])⟩

theorem ListsGrow.refl (s : State) : ListsGrow s s := .of_tx rfl (fun _ => rfl)

theorem ListsGrow.trans {s t u : State} (h : ListsGrow s t) (k : ListsGrow t u) : ListsGrow s u := by
  refine ⟨k.kept.trans h.kept, fun p => ?_⟩
  have hk : t.keptOn p = s.keptOn p := by simp only [State.keptOn, h.kept]
  have hp := h.tx p
  have kp := k.tx p
  omega

theorem Sends.listsGrow {s t : State} (h : Sends s t) : ListsGrow s t := by
  refine ⟨h.kept, fun p => ?_⟩
  obtain ⟨ns, htx, hroom⟩ := (h.link p).tx
  rcases hroom with rfl | hroom
  · exact .inl (by simp [htx])
  · exact .inr hroom

/-- A port written with its link as it was moves no list. -/
theorem link_setPort_of_link (s : State) (n : LaneIx) {p : ScreenPort} (h : p.link = (s.port n).link) (q : PortId) :
    (s.setPort n p).link q = s.link q := by
  cases q with
  | mgmt => rfl
  | screen m =>
    by_cases hm : m = n
    · subst hm; rw [State.link, port_setPort_same]; exact h
    · rw [State.link, port_setPort_other _ _ hm]; rfl

theorem setPort_listsGrow (s : State) (n : LaneIx) {p : ScreenPort} (h : p.link.tx = (s.port n).link.tx := by rfl) :
    ListsGrow s (s.setPort n p) := by
  refine .of_tx rfl fun q => ?_
  cases q with
  | mgmt => rfl
  | screen m =>
    by_cases hm : m = n
    · subst hm; rw [State.link, port_setPort_same]; exact h
    · rw [State.link, port_setPort_other _ _ hm]; rfl

theorem portTick_listsGrow (n : LaneIx) (s : State) : ListsGrow s (portTick n s) := by
  by_cases hf : s.isFitted n = true
  · rw [portTick_of_fitted hf]
    dsimp only
    split
    · exact (setPort_listsGrow s n).trans (raise_sends _ _).listsGrow
    · split
      · exact (setPort_listsGrow s n).trans (raise_sends _ _).listsGrow
      · exact setPort_listsGrow s n
  · rw [portTick, if_neg hf]
    exact .refl s

theorem setLink_listsGrow (s : State) (p : PortId) {l : Link} (h : l.tx.length ≤ (s.link p).tx.length) :
    ListsGrow s (s.setLink p l) := by
  refine ⟨setLink_kept s p l, fun q => .inl ?_⟩
  by_cases hq : q = p
  · subst hq; rw [link_setLink_same]; exact h
  · rw [link_setLink_other _ _ hq]

theorem frameError_listsGrow (p : PortId) (s : State) : ListsGrow s (frameError p s) := by
  have hdegrade (n : LaneIx) (s : State) : ListsGrow s (degrade n s) := by
    unfold degrade
    exact (setPort_listsGrow s n).trans (raise_sends _ _).listsGrow
  cases p with
  | mgmt => exact setLink_listsGrow s .mgmt (Nat.le_refl _)
  | screen n =>
    rw [frameError_screen]
    split
    · exact (setPort_listsGrow s n).trans (hdegrade n _)
    · exact setPort_listsGrow s n

theorem zeroCounters_listsGrow (s : State) : ListsGrow s (zeroCounters s) := by
  refine .of_tx rfl fun p => ?_
  cases p with
  | mgmt => rfl
  | screen n => rw [State.link, port_zeroCounters]; rfl

/-- Lists under the operations of the tick, the line and the answers to requests. -/
theorem listsGrow_answers : AnswersKeep ListsGrow where
  toEventsKeep := .of_sends .refl .trans (fun _ _ _ => .of_tx rfl fun p => by cases p <;> rfl)
    (fun _ _ _ => .of_tx rfl fun p => by cases p <;> rfl) portTick_listsGrow (fun _ _ h => h.listsGrow)
  screen n r s := (answerScreen_sends n r s).listsGrow
  loadKey f kind s := (loadKey_sends f kind s).listsGrow
  revokeKey slot kind s := (revokeKey_sends slot kind s).listsGrow
  purgeKey slot kind s := (purgeKey_sends slot kind s).listsGrow
  setPort port identity role classes kind s := by
    rcases setPort_cases port identity role classes kind s with hsame | ⟨n, entry, -, hwritten⟩
    · rw [hsame]; exact .refl s
    · rw [hwritten]; exact (setPort_listsGrow s n).trans (rejudgePort_sends n _ _).listsGrow
  laneParams n _ _ _ s := .of_tx rfl fun p => by rw [link_setLane]
  restoreLane lane s := (restoreLane_sends lane s).listsGrow
  voidHoldings lane s := (voidHoldings_sends lane s).listsGrow
  flags _ _ _ _ := .of_tx rfl fun p => by cases p <;> rfl
  clearKeyMark slot s := (clearKeyMark_sends slot s).listsGrow
  clearLaneMark named n s := (clearLaneMark_sends named n s).listsGrow
  zeroCounters := zeroCounters_listsGrow

/-! ## Lawful lists -/

theorem listsLawful_iff (s : State) : s.listsLawful ↔ s.kept = none ∧ ∀ p, (s.link p).tx.length ≤ 32 := by
  constructor
  · rintro ⟨hk, hm, hs⟩
    exact ⟨hk, fun p => match p with
      | .mgmt => hm
      | .screen n => hs n⟩
  · rintro ⟨hk, h⟩
    exact ⟨hk, h .mgmt, fun n => h (.screen n)⟩

theorem ListsGrow.lists {s t : State} (h : ListsGrow s t) (hs : s.listsLawful) : t.listsLawful := by
  obtain ⟨hk, htx⟩ := (listsLawful_iff s).mp hs
  refine (listsLawful_iff t).mpr ⟨h.kept.trans hk, fun p => ?_⟩
  have hp := h.tx p
  have kp := htx p
  omega

/-- What the operations of tick and line keep as a relation they keep as an invariant that follows it. -/
theorem EventsKeep.imp {R : State → State → Prop} {P : State → Prop} (h : EventsKeep R) (hP : ∀ {s t}, R s t → P s → P t) :
    EventsKeep (fun s t => P s → P t) where
  refl _ := id
  trans a b := b ∘ a
  framer s f hf := hP (h.framer s f hf)
  clock s c hc := hP (h.clock s c hc)
  raise s e := hP (h.raise s e)
  evaluateSlot slot s := hP (h.evaluateSlot slot s)
  laneTick n s := hP (h.laneTick n s)
  oweLane n s := hP (h.oweLane n s)
  countDownLane n s := hP (h.countDownLane n s)
  timeOutWithdrawals n s := hP (h.timeOutWithdrawals n s)
  timeOutClearing n s := hP (h.timeOutClearing n s)
  portTick n s := hP (h.portTick n s)
  recheckAt n s := hP (h.recheckAt n s)

/-- Taking a request where eight places are free: the answer's notices leave the place kept, and the reply takes it (R163, R171). -/
theorem handle_lists (p : PortId) (tag : Byte) (r : Request) (s : State) (hc : (s.link p).canTake = true)
    (hs : s.listsLawful) : (handle p tag r s).listsLawful := by
  have hplaces : (s.link p).tx.length + 8 ≤ 32 := of_decide_eq_true hc
  obtain ⟨-, htx⟩ := (listsLawful_iff s).mp hs
  have hbegin (q : PortId) : ((beginTaking p s).link q).tx = (s.link q).tx := by
    have hlink : (beginTaking p s).link q = (s.setLink p { s.link p with buffer := none }).link q := by cases q <;> rfl
    rw [hlink]
    by_cases hq : q = p
    · subst hq; rw [link_setLink_same]
    · rw [link_setLink_other _ _ hq]
  have hgrow := listsGrow_answers.answer p r (beginTaking p s)
  have hlink (q : PortId) : (handle p tag r s).link q =
      ((answer p r (beginTaking p s)).1.place p (.reply tag (answer p r (beginTaking p s)).2)).link q := by cases q <;> rfl
  refine (listsLawful_iff _).mpr ⟨rfl, fun q => ?_⟩
  rw [hlink q]
  have hq := hgrow.tx q
  have hb := htx q
  rw [hbegin q] at hq
  by_cases hqp : q = p
  · subst hqp
    have hkept : (beginTaking q s).keptOn q = 1 := by simp [State.keptOn, beginTaking]
    rw [link_place_same, List.length_append, List.length_singleton]
    omega
  · rw [link_place_other _ _ hqp]
    omega

theorem lists_commands : CommandsKeep (fun s t => s.listsLawful → t.listsLawful) where
  toEventsKeep := listsGrow_answers.toEventsKeep.imp ListsGrow.lists
  period s _ := (ListsGrow.of_tx rfl fun p => by cases p <;> rfl).lists
  handle := handle_lists
  frameError p s := (frameError_listsGrow p s).lists
  receiver s p _ := (setLink_listsGrow s p (by rfl)).lists
  fill s p _ := (setLink_listsGrow s p (by rfl)).lists
  sent s p f rest htx := (setLink_listsGrow s p (by simp [htx])).lists
  holdLevel _ _ _ := (ListsGrow.of_tx rfl fun p => by cases p <;> rfl).lists
  assertAt n s := (assertAt_sends n s).listsGrow.lists
  releaseAt n s := (releaseAt_sends n s).listsGrow.lists
  supply _ _ := (ListsGrow.of_tx rfl fun p => by cases p <;> rfl).lists
  restart s _ := by
    refine (listsLawful_iff _).mpr ⟨rfl, fun p => ?_⟩
    cases p with
    | mgmt => exact Nat.zero_le _
    | screen n =>
      have hport : (restartBlocks s).port n = .afterReset := get_sixteen _ n
      rw [State.link, hport]
      exact Nat.zero_le _

/-- Settles O5: notices keep to the places left, replies take the place kept for them, and every other command only shortens a
list. -/
theorem stepKeepsTransmitLists : Obligations.StepKeepsTransmitLists :=
  step_keeps_of_commands lists_commands (fun _ => id) (fun _ _ => id)

end Sys2Proof.Machine
end

section
/-! PROOFS. What leaves the keys and the holdings alone; and the Key Table under every command: records are rewritten in place under
their labels, written under new labels, or taken out (R47, R49; O4). -/

namespace Sys2Proof.Machine

/-! ## The work of lanes that grants nothing and confirms nothing -/

/-- The Key Table and every lane's holdings stay. -/
structure Retains (s t : State) : Prop where
  keys : t.keys = s.keys
  holdings : ∀ n, (t.rel n).holdings = (s.rel n).holdings

theorem Retains.refl (s : State) : Retains s s := ⟨rfl, fun _ => rfl⟩

theorem Retains.trans {s t u : State} (h : Retains s t) (k : Retains t u) : Retains s u :=
  ⟨k.keys.trans h.keys, fun n => (k.holdings n).trans (h.holdings n)⟩

theorem Retains.key {s t : State} (h : Retains s t) (slot : Nat) : t.key slot = s.key slot := by simp only [State.key, h.keys]

theorem Quiet.retains {s t : State} (h : Quiet s t) : Retains s t := ⟨h.keys, fun n => by rw [h.rel n]⟩

theorem setLane_retains (s : State) (n : LaneIx) (l : Lane) : Retains s (s.setLane n l) := ⟨rfl, fun _ => rfl⟩

theorem setPort_retains (s : State) (n : LaneIx) (p : ScreenPort) : Retains s (s.setPort n p) := ⟨rfl, fun _ => rfl⟩

theorem setRel_retains (s : State) (n : LaneIx) (r : Release) (h : r.holdings = (s.rel n).holdings := by rfl) :
    Retains s (s.setRel n r) := by
  refine ⟨rfl, fun m => ?_⟩
  by_cases hm : m = n
  · subst hm; rw [rel_setRel_same, h]
  · rw [rel_setRel_other _ _ hm]

theorem raise_retains (s : State) (e : Event) : Retains s (s.raise e) := (raise_quiet s e).retains

theorem notify_retains (s : State) (n : LaneIx) (x : Notice) : Retains s (s.notify n x) := (notify_quiet s n x).retains

theorem forLanes_retains {f : LaneIx → State → State} (h : ∀ n s, Retains s (f n s)) (s : State) : Retains s (s.forLanes f) :=
  forLanes_keep .refl .trans h s

theorem dropShow_retains (n : LaneIx) (st : LaneState) (s : State) : Retains s (dropShow n st s) := setLane_retains s n _

theorem reportShowEnd_retains (n : LaneIx) (l : Lane) (reason : ShowReason) (s : State) :
    Retains s (reportShowEnd n l reason s) := (reportShowEnd_quiet n l reason s).retains

theorem cancelDeadlines_retains (n : LaneIx) (s : State) : Retains s (cancelDeadlines n s) := setRel_retains s n _

theorem recordQuarantine_retains (n : LaneIx) (cause : QuarantineCause) (s : State) : Retains s (recordQuarantine n cause s) :=
  (cancelDeadlines_retains n s).trans (raise_retains _ _)

theorem quarantine_retains (n : LaneIx) (cause : QuarantineCause) (s : State) : Retains s (quarantine n cause s) := by
  unfold quarantine
  split
  · exact .refl s
  · refine Retains.trans ?_ (recordQuarantine_retains n cause _)
    split
    · exact (dropShow_retains n _ s).trans (reportShowEnd_retains _ _ _ _)
    · exact dropShow_retains n _ s

theorem withdraw_retains (n : LaneIx) (a : ActiveReel) (s : State) : Retains s (withdraw n a s) :=
  (setRel_retains s n _).trans (notify_retains _ _ _)

theorem endShowWith_retains (n : LaneIx) (reason : ShowReason) {f : State → State} (hf : ∀ s, Retains s (f s)) (s : State) :
    Retains s (endShowWith n reason f s) := by
  unfold endShowWith
  split
  · exact .refl s
  · split
    · exact (hf s).trans (quarantine_retains _ _ _)
    · exact (((withdraw_retains n _ s).trans (hf _)).trans (dropShow_retains _ _ _)).trans (reportShowEnd_retains _ _ _ _)

theorem endShow_retains (n : LaneIx) (reason : ShowReason) (s : State) : Retains s (endShow n reason s) :=
  endShowWith_retains n reason Retains.refl s

theorem screenErased_retains (n : LaneIx) (s : State) : Retains s (screenErased n s) := by
  unfold screenErased
  split
  · exact (dropShow_retains n _ s).trans (reportShowEnd_retains _ _ _ _)
  · exact .refl s

theorem countDownLane_retains (n : LaneIx) (s : State) : Retains s (countDownLane n s) := by
  unfold countDownLane
  split
  · exact setRel_retains s n _
  · split
    · exact setRel_retains s n _
    · exact .refl s

theorem timeOutWithdrawals_retains (n : LaneIx) (s : State) : Retains s (timeOutWithdrawals n s) := by
  unfold timeOutWithdrawals
  dsimp only
  split
  · exact (setLane_retains s n _).trans (quarantine_retains _ _ _)
  · exact .refl s

theorem timeOutClearing_retains (n : LaneIx) (s : State) : Retains s (timeOutClearing n s) := by
  unfold timeOutClearing
  split
  · exact quarantine_retains _ _ _
  · exact .refl s

theorem startClearing_retains (n : LaneIx) (s : State) : Retains s (startClearing n s) :=
  ((notify_retains s n _).trans (setRel_retains _ n _)).trans (setLane_retains _ n _)

theorem laneBind_retains (n : LaneIx) (s : State) : Retains s (laneBind n s) := by
  unfold laneBind
  split
  · split
    · exact startClearing_retains n s
    · exact setLane_retains s n _
  · exact .refl s

theorem laneUnbind_retains (n : LaneIx) (s : State) : Retains s (laneUnbind n s) :=
  ((dropShow_retains n _ s).trans (cancelDeadlines_retains n _)).trans (setRel_retains _ n _)

theorem identityChange_retains (n : LaneIx) (s : State) : Retains s (identityChange n s) := by
  unfold identityChange
  split
  · exact .refl s
  · split
    · exact (dropShow_retains n _ s).trans (cancelDeadlines_retains n _)
    · exact (dropShow_retains n _ s).trans (recordQuarantine_retains n _ _)

theorem restoreLane_retains (lane : Byte) (s : State) : Retains s (restoreLane lane s).1 := by
  unfold restoreLane
  split
  · exact .refl s
  · split
    · exact startClearing_retains _ s
    · exact .refl s

theorem enterHeld_retains (n : LaneIx) (screen site : Bool) (s : State) : Retains s (enterHeld n screen site s) := by
  unfold enterHeld
  dsimp only
  split
  · exact (setLane_retains s n _).trans (endShow_retains _ _ _)
  · exact setLane_retains s n _

theorem releaseLastHold_retains (n : LaneIx) (s : State) : Retains s (releaseLastHold n s) := by
  unfold releaseLastHold
  split
  · exact .refl s
  · split
    · exact setLane_retains s n _
    · exact endShow_retains _ _ _

theorem completeShow_retains (n : LaneIx) (s : State) : Retains s (completeShow n s) := by
  unfold completeShow
  dsimp only
  split
  · exact (endShow_retains n _ s).trans (setLane_retains _ n _)
  · exact endShow_retains n _ s

theorem continuationBoundary_retains (n : LaneIx) (a : ActiveReel) (p : PendingReel) (s : State) :
    Retains s (continuationBoundary n a p s) := by
  unfold continuationBoundary
  split
  · exact endShow_retains _ _ _
  · exact (setLane_retains s n _).trans (notify_retains _ _ _)

theorem expireAt_retains (slot : Nat) (n : LaneIx) (s : State) : Retains s (expireAt slot n s) := by
  unfold expireAt
  split
  · exact endShow_retains _ _ _
  · exact .refl s

theorem expiryNotice_retains (slot : Nat) (s : State) : Retains s (expiryNotice slot s) :=
  forLanes_retains (expireAt_retains slot) s

/-- What a revocation frees at a lane goes out as one notice, or none (R63). -/
theorem bufferFreed_retains (n : LaneIx) (hit : Option PendingReel) (s : State) : Retains s (match hit with
    | none => s
    | some p => s.notify n (.bufferFree .revoked p.tag none)) := by
  cases hit with
  | none => exact .refl s
  | some p => exact notify_retains s n _

theorem revokeAt_retains (slot : Nat) (n : LaneIx) (s : State) : Retains s (revokeAt slot n s) := by
  have hdiscard (b : Bool) : Retains s (if b = true then s.setLane n { s.lane n with pending := none } else s) := by
    split
    · exact setLane_retains s n _
    · exact .refl s
  unfold revokeAt
  dsimp only
  split
  · split
    · exact (hdiscard _).trans (endShowWith_retains n _ (bufferFreed_retains n _) _)
    · exact (hdiscard _).trans (bufferFreed_retains n _ _)
  · exact .refl s

theorem revocationNotice_retains (slot : Nat) (s : State) : Retains s (revocationNotice slot s) :=
  forLanes_retains (revokeAt_retains slot) s

theorem recheckAt_retains (n : LaneIx) (s : State) : Retains s (recheckAt n s) := by
  unfold recheckAt
  split
  · split
    · exact .refl s
    · exact endShow_retains _ _ _
  · exact .refl s

theorem storePending_retains (n : LaneIx) (p : PendingReel) (s : State) : Retains s (storePending n p s).1 := by
  unfold storePending
  split
  · exact .refl s
  · dsimp only
    split <;> exact setLane_retains s n _

theorem stopShow_retains (n : LaneIx) (s : State) : Retains s (stopShow n s).1 := by
  unfold stopShow
  split
  · exact endShow_retains _ _ _
  · exact .refl s

theorem holdShow_retains (n : LaneIx) (s : State) : Retains s (holdShow n s).1 := by
  unfold holdShow
  split
  · exact enterHeld_retains _ _ _ _
  · exact setLane_retains s n _
  all_goals exact .refl s

theorem resumeShow_retains (n : LaneIx) (s : State) : Retains s (resumeShow n s).1 := by
  unfold resumeShow
  split
  · dsimp only
    split
    · exact (setLane_retains s n _).trans (releaseLastHold_retains _ _)
    · exact setLane_retains s n _
  · exact .refl s

theorem assertAt_retains (n : LaneIx) (s : State) : Retains s (assertAt n s) := by
  unfold assertAt
  split
  · exact enterHeld_retains _ _ _ _
  · exact setLane_retains s n _
  all_goals exact .refl s

theorem releaseAt_retains (n : LaneIx) (s : State) : Retains s (releaseAt n s) := by
  unfold releaseAt
  dsimp only
  split
  · exact (setLane_retains s n _).trans (releaseLastHold_retains _ _)
  · exact setLane_retains s n _

theorem setPortState_retains (s : State) (n : LaneIx) (st : PortState) : Retains s (s.setPortState n st) := setPort_retains s n _

theorem bindPort_retains (n : LaneIx) (identity : Identity) (s : State) : Retains s (bindPort n identity s) := by
  have hbound := (setPortState_retains s n (.bound identity)).trans (raise_retains _
    (.portBound n identity ((s.setPortState n (.bound identity)).port n).entry.role))
  unfold bindPort
  dsimp only
  split
  · exact hbound.trans (laneBind_retains n _)
  · exact hbound

theorem unbindForIdentity_retains (n : LaneIx) (old : Identity) (s : State) : Retains s (unbindForIdentity n old s) := by
  have hunbound := (setPortState_retains s n .unbound).trans (raise_retains _ (.portUnbound n .identityChange old))
  unfold unbindForIdentity
  dsimp only
  split
  · exact hunbound.trans (identityChange_retains n _)
  · exact hunbound

theorem announce_retains (n : LaneIx) (identity : Identity) (kind : Byte) (s : State) :
    Retains s (announce n identity kind s).1 := by
  have hjudge (s : State) : Retains s (judgeAnnounce n identity kind s).1 := by
    unfold judgeAnnounce
    dsimp only
    split
    · exact setPortState_retains s n _
    · dsimp only
      split
      · exact setPortState_retains s n _
      · exact bindPort_retains n identity s
  unfold announce
  split
  · split
    · exact .refl s
    · exact (unbindForIdentity_retains n _ s).trans (hjudge _)
  · exact hjudge s

theorem rejudgePort_retains (n : LaneIx) (old : Role) (s : State) : Retains s (rejudgePort n old s) := by
  have hbound (identity : Identity) : Retains s (rejudgeBound n old identity s) := by
    have hunbound := (setPortState_retains s n .unbound).trans (raise_retains _ (.portUnbound n .setPort identity))
    unfold rejudgeBound
    dsimp only
    split
    · split
      · exact hunbound.trans (laneUnbind_retains n _)
      · exact hunbound
    · split
      · exact laneUnbind_retains n s
      · split
        · exact laneBind_retains n s
        · exact .refl s
  unfold rejudgePort
  dsimp only
  split
  · exact .refl s
  · split
    · exact .refl s
    · exact setPortState_retains s n _
  · exact hbound _

theorem setPortRequest_retains (port : Byte) (identity : Option Identity) (role classes kind : Byte) (s : State) :
    Retains s (setPort port identity role classes kind s).1 := by
  rcases setPort_cases port identity role classes kind s with hsame | ⟨n, entry, -, hwritten⟩
  · rw [hsame]; exact .refl s
  · rw [hwritten]; exact (setPort_retains s n _).trans (rejudgePort_retains n _ _)

end Sys2Proof.Machine
end

section
/-! PROOFS. The steps of an opening check, one by one and then in their order (R112 to R125; O32), and the serial a new grant takes
(R130; O33). -/

namespace Sys2Proof.Machine

/-! ## The steps of a check -/

theorem Clock.usable_iff (c : Clock) : c.usable = true ↔ c.time = .assured ∨ c.time = .holdover := by simp [Clock.usable]

theorem Clock.not_usable_iff (c : Clock) : c.usable = false ↔ c.time = .noTime ∨ c.time = .unassured := by
  cases h : c.time <;> simp [Clock.usable, h]

theorem hasPlace_iff (n : LaneIx) (slot : Nat) (k : Key) (s : State) :
    hasPlace n slot k s = true ↔ slot ∈ (s.rel n).holdings ∨ s.holderCount slot < k.c := by
  simp [hasPlace, State.holds]

theorem keyRefusal_none_iff (n : LaneIx) (k : Key) (label : Label) : keyRefusal n k label = none ↔
    k.label = label ∧ k.state ≠ .revoked ∧ k.state ≠ .expired ∧ k.screens.getLsbD n.val = true := by
  unfold keyRefusal
  split
  · next h => simp [h]
  · next h =>
    rw [not_ne_iff] at h
    cases hst : k.state <;> simp [h]

theorem windowRefusal_none_iff (continuation : Bool) (c : Clock) (k : Key) (d : Nat) : windowRefusal continuation c k d = none ↔
    c.usable = true ∧ k.nb + c.u ≤ c.now ∧ (continuation = false → c.now + c.u < k.na)
      ∧ c.now + c.u + d ≤ k.na + k.a := by
  unfold windowRefusal
  split
  · next h => simp_all
  · split
    · next h => simp; omega
    · split
      · next h => simp_all
      · split
        · next h => simp; omega
        · next h1 h2 h3 h4 => simp_all

/-! ## The order of the steps (R112) -/

theorem openingCheck_of_degraded {n : LaneIx} {s : State} (slot : Nat) (label : Label) (d : Nat)
    (h : (s.port n).degraded = true) : (openingCheck false n slot label d s).refusal = some .linkDegraded := by
  simp [openingCheck, h, earlyReport]

/-- A check that no degraded link stops, on an occupied slot: the key's steps, the window's, and the place of a new start. -/
theorem openingCheck_of_key {continuation : Bool} {n : LaneIx} {slot : Nat} {k : Key} {s : State} (label : Label) (d : Nat)
    (hlink : continuation = false → (s.port n).degraded = false) (hkey : s.key slot = some k) :
    (openingCheck continuation n slot label d s).refusal =
      match keyRefusal n k label with
      | some reason => some reason
      | none =>
        match windowRefusal continuation s.clock k d with
        | some reason => some reason
        | none => if continuation = true ∨ hasPlace n slot k s = true then none else some .oversubscribed := by
  have hpass : (!continuation && (s.port n).degraded) = false := by cases continuation <;> simp [hlink]
  simp only [openingCheck, hpass, hkey]
  cases keyRefusal n k label with
  | some reason => simp [earlyReport]
  | none =>
    cases windowRefusal continuation s.clock k d with
    | some reason => simp [timedReport]
    | none => cases continuation <;> simp [timedReport]

theorem openingCheck_of_empty {continuation : Bool} {n : LaneIx} {slot : Nat} {s : State} (label : Label) (d : Nat)
    (hlink : continuation = false → (s.port n).degraded = false) (hkey : s.key slot = none) :
    (openingCheck continuation n slot label d s).refusal = some .noKey := by
  have hpass : (!continuation && (s.port n).degraded) = false := by cases continuation <;> simp [hlink]
  simp [openingCheck, hpass, hkey, earlyReport]

/-- A check passes where every step of its variant does. -/
theorem openingCheck_none_iff (continuation : Bool) (n : LaneIx) (slot : Nat) (label : Label) (d : Nat) (s : State) :
    (openingCheck continuation n slot label d s).refusal = none ↔
      (continuation = false → (s.port n).degraded = false) ∧ ∃ k, s.key slot = some k ∧ keyRefusal n k label = none
        ∧ windowRefusal continuation s.clock k d = none ∧ (continuation = true ∨ hasPlace n slot k s = true) := by
  by_cases hlink : continuation = false → (s.port n).degraded = false
  · cases hkey : s.key slot with
    | none => simp [openingCheck_of_empty label d hlink hkey]
    | some k =>
      rw [openingCheck_of_key label d hlink hkey]
      simp only [Option.some.injEq, exists_eq_left', iff_true_intro hlink, true_and]
      cases keyRefusal n k label <;> cases windowRefusal continuation s.clock k d <;>
        simp [← Bool.not_eq_false, imp_iff_not_or]
  · push Not at hlink
    obtain ⟨rfl, hd⟩ := hlink
    have hdeg : (s.port n).degraded = true := by simpa using hd
    simp [openingCheck_of_degraded slot label d hdeg, hdeg]

/-- Settles O32: the check is its steps in their order. -/
theorem newStartPassesExactlyWhen : Obligations.NewStartPassesExactlyWhen := by
  refine ⟨fun n slot label d s => ?_, fun n slot label d s => ⟨openingCheck_of_degraded slot label d, fun hlink => ⟨?_, ?_⟩⟩,
    fun n slot label d s => ?_⟩
  · rw [openingCheck_none_iff]
    simp only [keyRefusal_none_iff, windowRefusal_none_iff, Clock.usable_iff, hasPlace_iff]
    simp [and_assoc]
  · exact openingCheck_of_empty label d fun _ => hlink
  · intro k hkey
    have hcheck := openingCheck_of_key label d (continuation := false) (fun _ => hlink) hkey
    refine ⟨fun hl => ?changed, fun hl => ⟨fun hst => ?revoked, fun hst => ?expired, fun hr he => ⟨fun hscreen => ?screen,
      fun hscreen => ?window⟩⟩⟩
    case changed => rw [hcheck]; simp [keyRefusal, hl]
    case revoked => rw [hcheck]; simp [keyRefusal, hl, hst]
    case expired => rw [hcheck]; simp [keyRefusal, hl, hst]
    case screen =>
      have hrefused : keyRefusal n k label = some .notAuthorized := by
        simp only [keyRefusal, hl, hr, he, hscreen, ne_eq, not_true_eq_false, if_false, if_true]
      rw [hcheck, hrefused]
    case window =>
      rw [(keyRefusal_none_iff n k label).mpr ⟨hl, hr, he, hscreen⟩] at hcheck
      rw [← Clock.not_usable_iff, ← Clock.usable_iff, hcheck]
      refine ⟨fun hu => ?_, fun hu => ⟨fun hnb => ?_, fun hnb => ⟨fun hna => ?_, fun hna => ⟨fun hruns => ?_,
        fun hruns hheld hcount => ?_⟩⟩⟩⟩
      · simp [windowRefusal, hu]
      · simp [windowRefusal, hu, hnb]
      · simp [windowRefusal, hu, hna, Nat.not_lt.mpr hnb]
      · simp [windowRefusal, hu, hruns, Nat.not_lt.mpr hnb, Nat.not_le.mpr hna]
      · have hplace : hasPlace n slot k s = false := by
          rw [Bool.eq_false_iff, Ne, hasPlace_iff]
          rintro (h | h)
          · exact hheld h
          · exact absurd h (Nat.not_lt.mpr hcount)
        rw [(windowRefusal_none_iff false s.clock k d).mpr ⟨hu, hnb, fun _ => hna, hruns⟩]
        simp [hplace]
  · rw [openingCheck_none_iff]
    simp only [keyRefusal_none_iff, windowRefusal_none_iff, Clock.usable_iff]
    simp [and_assoc]

/-! ## The serial a new grant takes (R130) -/

/-- A list carries a serial. -/
def carries (outstanding : List Entry) (serial : Nat) : Bool := outstanding.any (fun e => e.serial == serial)

theorem carries_iff (outstanding : List Entry) (serial : Nat) :
    carries outstanding serial = true ↔ serial ∈ outstanding.map (fun e => e.serial) := by
  simp [carries]

theorem nextSerialAfter_bounds {serial : Nat} (h : 1 ≤ serial ∧ serial ≤ 65535) :
    1 ≤ nextSerialAfter serial ∧ nextSerialAfter serial ≤ 65535 := by
  unfold nextSerialAfter
  split <;> omega

theorem freeSerial_bounds (outstanding : List Entry) (fuel : Nat) {serial : Nat} (h : 1 ≤ serial ∧ serial ≤ 65535) :
    1 ≤ freeSerial outstanding fuel serial ∧ freeSerial outstanding fuel serial ≤ 65535 := by
  induction fuel generalizing serial with
  | zero => exact h
  | succ fuel ih =>
    unfold freeSerial
    split
    · exact ih (nextSerialAfter_bounds h)
    · exact h

/-- Where the serial found is carried, so is every one that was passed over. -/
theorem freeSerial_carried (outstanding : List Entry) (fuel serial : Nat)
    (h : carries outstanding (freeSerial outstanding fuel serial) = true) :
    ∀ i ≤ fuel, carries outstanding (nextSerialAfter^[i] serial) = true := by
  induction fuel generalizing serial with
  | zero =>
    intro i hi
    rw [Nat.le_zero.mp hi]
    exact h
  | succ fuel ih =>
    unfold freeSerial at h
    split at h
    · next hs =>
      intro i hi
      cases i with
      | zero => exact hs
      | succ i => exact ih _ h i (Nat.le_of_succ_le_succ hi)
    · next hs => exact absurd h hs

/-- Five serials one after another are five serials. -/
theorem five_serials_nodup {serial : Nat} (h : 1 ≤ serial ∧ serial ≤ 65535) :
    ((List.range 5).map (fun i => nextSerialAfter^[i] serial)).Nodup := by
  have hrange : List.range 5 = [0, 1, 2, 3, 4] := by decide
  simp only [hrange, List.map_cons, List.map_nil, Function.iterate_succ, Function.iterate_zero, Function.comp_apply, id_eq,
    nextSerialAfter, List.nodup_cons, List.mem_cons, List.not_mem_nil, or_false, not_or, not_false_eq_true, List.nodup_nil,
    and_true]
  refine ⟨?_, ?_, ?_, ?_⟩ <;> split_ifs <;> omega

theorem takenSerial_free {r : Release} (hlen : r.outstanding.length ≤ 4) (h : 1 ≤ r.nextSerial ∧ r.nextSerial ≤ 65535) :
    carries r.outstanding r.takenSerial = false := by
  by_contra hcarried
  rw [Bool.not_eq_false] at hcarried
  have hall := freeSerial_carried r.outstanding 4 r.nextSerial hcarried
  have hsub : (List.range 5).map (fun i => nextSerialAfter^[i] r.nextSerial) ⊆ r.outstanding.map (fun e => e.serial) := by
    intro serial hmem
    obtain ⟨i, hi, rfl⟩ := List.mem_map.mp hmem
    exact (carries_iff _ _).mp (hall i (Nat.le_of_lt_succ (List.mem_range.mp hi)))
  have hle := ((five_serials_nodup h).subperm hsub).length_le
  simp only [List.length_map, List.length_range] at hle
  omega

/-- Settles O33: of five serials in a row four entries carry at most four. -/
theorem takenSerialIsFree : Obligations.TakenSerialIsFree := by
  intro r hlen h1 h2
  have hbounds := freeSerial_bounds r.outstanding 4 ⟨h1, h2⟩
  refine ⟨hbounds.1, hbounds.2, fun e he heq => ?_⟩
  have hcarried : carries r.outstanding r.takenSerial = true :=
    (carries_iff _ _).mpr (List.mem_map.mpr ⟨e, he, heq⟩)
  rw [takenSerial_free hlen ⟨h1, h2⟩] at hcarried
  exact absurd hcarried (by decide)

end Sys2Proof.Machine
end

section
/-! PROOFS. The Key Table under every command: records are rewritten in place under their labels and limits, written under new labels,
or taken out (R47, R49; O4). Holdings under every command: they shrink, but for a grant, which a place under the limit allows
(R65, R67, R122; O7). -/

namespace Sys2Proof.Machine

/-! ## What a rewrite in place leaves of a table -/

/-- A record written over one that agrees with it under `f` leaves the table the same under `f`. -/
theorem map_insertKey {β : Type} (f : Nat × Key → β) {slot : Nat} {k k' : Key} {table : List (Nat × Key)} (hw : keysWf table)
    (h : lookupKey slot table = some k) (hf : f (slot, k') = f (slot, k)) : (insertKey slot k' table).map f = table.map f := by
  obtain ⟨hp, -⟩ := hw
  induction table with
  | nil => simp [lookupKey] at h
  | cons e rest ih =>
    obtain ⟨i, x⟩ := e
    rw [List.pairwise_cons] at hp
    unfold lookupKey at h
    unfold insertKey
    split at h
    · next hi =>
      subst hi
      simp only [Nat.lt_irrefl, if_false, if_true, List.map_cons, hf]
      rw [Option.some.inj h]
    · next hi =>
      have hlt : i < slot := hp.1 _ (mem_of_lookupKey h)
      rw [if_neg (Nat.not_lt.mpr hlt.le), if_neg (Ne.symm hi), List.map_cons, ih h hp.2, List.map_cons]

/-- What of a table no rewrite in place changes: the slots, with their labels and concurrency limits. -/
def tableFrame (table : List (Nat × Key)) : List (Nat × Label × Nat) := table.map (fun e => (e.1, e.2.label, e.2.c))

theorem tableLawful_iff (s : State) : s.tableLawful ↔
    ((tableFrame s.keys).map (fun e => e.1)).Pairwise (· < ·) ∧ (∀ e ∈ tableFrame s.keys, e.1 < 512)
      ∧ ((tableFrame s.keys).map (fun e => e.2.1)).Nodup := by
  simp only [State.tableLawful, keysWf, tableFrame, List.map_map, List.pairwise_map, List.forall_mem_map, and_assoc]
  rfl

/-- The frame of a canonical table stays. -/
def FrameStays (s t : State) : Prop := keysWf s.keys → tableFrame t.keys = tableFrame s.keys

theorem FrameStays.of_keys {s t : State} (h : t.keys = s.keys) : FrameStays s t := fun _ => by rw [h]

theorem FrameStays.wf {s t : State} (h : FrameStays s t) (hs : keysWf s.keys) : keysWf t.keys := by
  have hframe := h hs
  have hiff (u : State) : keysWf u.keys ↔
      ((tableFrame u.keys).map (fun e => e.1)).Pairwise (· < ·) ∧ ∀ e ∈ tableFrame u.keys, e.1 < 512 := by
    simp only [keysWf, tableFrame, List.map_map, List.pairwise_map, List.forall_mem_map]
    rfl
  rw [hiff, hframe, ← hiff]
  exact hs

theorem FrameStays.trans {s t u : State} (h : FrameStays s t) (k : FrameStays t u) : FrameStays s u :=
  fun hs => (k (h.wf hs)).trans (h hs)

theorem FrameStays.lawful {s t : State} (h : FrameStays s t) (hs : s.tableLawful) : t.tableLawful := by
  have hframe := h hs.1
  rw [tableLawful_iff] at hs ⊢
  rw [hframe]
  exact hs

/-- A record written over one under its label and its limit. -/
theorem setKey_frame {s : State} {slot : Nat} {k : Key} (hkey : s.key slot = some k) {k' : Key}
    (hl : k'.label = k.label := by rfl) (hc : k'.c = k.c := by rfl) : FrameStays s (s.setKey slot k') :=
  fun hw => map_insertKey (fun e => (e.1, e.2.label, e.2.c)) hw hkey (by rw [hl, hc])

/-! ## Keys rewritten, holdings no larger -/

/-- Records are rewritten in place, and no lane holds a slot it did not hold. -/
structure Shrinks (s t : State) : Prop where
  frame : FrameStays s t
  holdings : ∀ n, ∀ slot ∈ (t.rel n).holdings, slot ∈ (s.rel n).holdings

theorem Retains.shrinks {s t : State} (h : Retains s t) : Shrinks s t :=
  ⟨.of_keys h.keys, fun n slot hslot => by rwa [← h.holdings n]⟩

theorem Shrinks.refl (s : State) : Shrinks s s := (Retains.refl s).shrinks

theorem Shrinks.trans {s t u : State} (h : Shrinks s t) (k : Shrinks t u) : Shrinks s u :=
  ⟨h.frame.trans k.frame, fun n slot hslot => h.holdings n slot (k.holdings n slot hslot)⟩

theorem Shrinks.then {s t u : State} (h : Shrinks s t) (k : Retains t u) : Shrinks s u := h.trans k.shrinks

theorem setKey_shrinks {s : State} {slot : Nat} {k : Key} (hkey : s.key slot = some k) {k' : Key}
    (hl : k'.label = k.label := by rfl) (hc : k'.c = k.c := by rfl) : Shrinks s (s.setKey slot k') :=
  ⟨setKey_frame hkey hl hc, fun _ _ => id⟩

theorem setRel_shrinks (s : State) (n : LaneIx) (r : Release) (h : ∀ slot ∈ r.holdings, slot ∈ (s.rel n).holdings) :
    Shrinks s (s.setRel n r) := by
  refine ⟨.of_keys rfl, fun m => ?_⟩
  by_cases hm : m = n
  · subst hm; rw [rel_setRel_same]; exact h
  · rw [rel_setRel_other _ _ hm]; exact fun _ => id

theorem noteOversubscribed_shrinks (n : LaneIx) (slot : Nat) (s : State) : Shrinks s (noteOversubscribed n slot s) := by
  unfold noteOversubscribed
  split
  · exact .refl s
  · next k hk => exact ((setKey_shrinks hk).then (setLane_retains _ n _)).then (raise_retains _ _)

theorem noteCheck_shrinks (n : LaneIx) (slot : Nat) (report : CheckReport) (s : State) :
    Shrinks s (noteCheck n slot report s) := by
  unfold noteCheck
  split
  · exact noteOversubscribed_shrinks n slot s
  · exact .refl s

theorem evaluateSlot_shrinks (slot : Nat) (s : State) : Shrinks s (evaluateSlot slot s) := by
  unfold evaluateSlot
  split
  · exact .refl s
  · next k hk =>
    have hmoved := (setKey_shrinks hk (k' := k.moved (k.judged s.clock.now s.clock.u) s.clock.now)).then
      (raise_retains _ (.keyState slot (some k.state) (some (k.judged s.clock.now s.clock.u)) .window))
    dsimp only
    split
    · exact .refl s
    · split
      · exact hmoved.then (expiryNotice_retains slot _)
      · exact hmoved

theorem revokeKey_shrinks (slot : Nat) (kind : Byte) (s : State) : Shrinks s (revokeKey slot kind s).1 := by
  unfold revokeKey
  split
  · exact .refl s
  · split
    · exact .refl s
    · next k hk =>
      split
      · exact .refl s
      · have hrevoked := (setKey_shrinks hk (k' := { k with state := .revoked, revokedAt := s.clock.t })).then
          (raise_retains _ (.keyState slot (some k.state) (some .revoked) .revoked))
        dsimp only
        exact hrevoked.then (revocationNotice_retains slot _)

theorem clearKeyMark_shrinks (slot : Nat) (s : State) : Shrinks s (clearKeyMark s slot) := by
  cases hk : s.key slot with
  | none => rw [clearKeyMark_of_empty hk]; exact .refl s
  | some k => rw [clearKeyMark_of_occupied hk]; exact setKey_shrinks hk

theorem holdingsWithout_subset (slot : Nat) (holdings : List Nat) (outstanding : List Entry) (active : Option ActiveReel) :
    ∀ x ∈ holdingsWithout slot holdings outstanding active, x ∈ holdings := by
  unfold holdingsWithout removeSlot
  split
  · exact fun _ => id
  · exact fun x hx => (List.mem_filter.mp hx).1

theorem erasedAt_shrinks (n : LaneIx) (serial : Nat) (s : State) : Shrinks s (erasedAt n serial s).1 := by
  unfold erasedAt
  split
  · exact .refl s
  · split
    · next e _ =>
      refine setRel_shrinks s n _ fun slot hslot => ?_
      dsimp only at hslot
      split at hslot
      · exact holdingsWithout_subset _ _ _ _ slot hslot
      · exact hslot
    · split
      · next a _ =>
        exact (screenErased_retains n s).shrinks.trans (setRel_shrinks _ n _ (holdingsWithout_subset _ _ _ _))
      · exact .refl s

theorem erasedAllAt_shrinks (n : LaneIx) (s : State) : Shrinks s (erasedAllAt n s).1 := by
  have hempty (s : State) (r : Release) (h : r.holdings = []) : Shrinks s (s.setRel n r) :=
    setRel_shrinks s n r (by simp [h])
  have hinService : Shrinks s (eraseEverything n s) :=
    (screenErased_retains n s).shrinks.trans (hempty _ _ rfl)
  unfold erasedAllAt
  dsimp only
  split
  · exact ((hempty s _ rfl).then (setLane_retains _ n _)).then (raise_retains _ _)
  · exact hinService
  · exact hinService
  · exact hinService
  · exact .refl s
  · exact .refl s

theorem voidHoldings_shrinks (lane : Byte) (s : State) : Shrinks s (voidHoldings lane s).1 := by
  unfold voidHoldings
  split
  · exact .refl s
  · next n _ =>
    split
    · exact (setRel_shrinks s n _ (by simp)).then (setLane_retains _ n _)
    · exact .refl s

/-! ## Grants -/

theorem issueGrant_frame (n : LaneIx) (slot : Nat) (tag : ReelTag) (d : Nat) (s : State) :
    FrameStays s (issueGrant n slot tag d s).1 := by
  unfold issueGrant
  dsimp only
  split
  · exact .of_keys rfl
  · next k hk => exact ((FrameStays.of_keys rfl).trans (setKey_frame hk)).trans (.of_keys (notify_keys _ _ _))

theorem mem_insertSlot (slot x : Nat) (slots : List Nat) : x ∈ insertSlot slot slots ↔ x = slot ∨ x ∈ slots := by
  induction slots with
  | nil => simp [insertSlot]
  | cons y ys ih =>
    unfold insertSlot
    split
    · simp
    · split
      · next h => simp [h]
      · simp only [List.mem_cons, ih]; tauto

theorem issueGrant_holdings_same (n : LaneIx) (slot : Nat) (tag : ReelTag) (d : Nat) (s : State) :
    ((issueGrant n slot tag d s).1.rel n).holdings = insertSlot slot (s.rel n).holdings := by
  unfold issueGrant
  dsimp only
  split <;> simp

theorem issueGrant_holdings_other {n m : LaneIx} (hm : m ≠ n) (slot : Nat) (tag : ReelTag) (d : Nat) (s : State) :
    (issueGrant n slot tag d s).1.rel m = s.rel m := (issueGrant_local n slot tag d s).rel m hm

/-- At most one lane becomes a holder that was none. -/
theorem length_filter_le_succ {l : List LaneIx} (hl : l.Nodup) (n : LaneIx) {p q : LaneIx → Bool}
    (h : ∀ m ≠ n, q m = true → p m = true) : (l.filter q).length ≤ (l.filter p).length + 1 := by
  have hsub : l.filter q ⊆ n :: l.filter p := by
    intro m hm
    obtain ⟨hml, hq⟩ := List.mem_filter.mp hm
    by_cases hmn : m = n
    · exact hmn ▸ List.mem_cons_self
    · exact List.mem_cons_of_mem _ (List.mem_filter.mpr ⟨hml, h m hmn hq⟩)
  exact ((hl.filter q).subperm hsub).length_le

theorem length_filter_le {l : List LaneIx} {p q : LaneIx → Bool} (h : ∀ m, q m = true → p m = true) :
    (l.filter q).length ≤ (l.filter p).length := (List.monotone_filter_right l h).length_le

/-! ## The law of holders -/

/-- The law of holders speaks of the frame of the table and the holdings alone. -/
theorem holdersLawful_iff (s : State) : s.holdersLawful ↔
    (∀ e ∈ tableFrame s.keys, s.holderCount e.1 ≤ e.2.2)
      ∧ ∀ n : LaneIx, ∀ slot ∈ (s.rel n).holdings, slot ∈ (tableFrame s.keys).map (fun e => e.1) := by
  have hoccupied (slot : Nat) : (s.key slot).isSome = true ↔ slot ∈ (tableFrame s.keys).map (fun e => e.1) := by
    unfold State.key tableFrame
    generalize s.keys = table
    induction table with
    | nil => simp [lookupKey]
    | cons e rest ih =>
      obtain ⟨i, x⟩ := e
      unfold lookupKey
      split
      · next h => simp [h]
      · next h => rw [ih]; simp [Ne.symm h]
  simp only [State.holdersLawful, hoccupied, tableFrame, List.forall_mem_map]

theorem holds_iff (s : State) (n : LaneIx) (slot : Nat) : s.holds n slot = true ↔ slot ∈ (s.rel n).holdings := by
  simp [State.holds]

theorem Shrinks.holders {s t : State} (h : Shrinks s t) (hw : keysWf s.keys) (hs : s.holdersLawful) : t.holdersLawful := by
  have hframe := h.frame hw
  rw [holdersLawful_iff] at hs ⊢
  obtain ⟨hcount, hheld⟩ := hs
  rw [hframe]
  refine ⟨fun e he => Nat.le_trans (length_filter_le fun n => ?_) (hcount e he), fun n slot hslot =>
    hheld n slot (h.holdings n slot hslot)⟩
  rw [holds_iff, holds_iff]
  exact h.holdings n e.1

/-- A grant on a slot under whose limit the lane has a place (R122, R131). -/
theorem issueGrant_holders {n : LaneIx} {slot : Nat} {k : Key} (tag : ReelTag) (d : Nat) {s : State} (hw : s.tableLawful)
    (hs : s.holdersLawful) (hkey : s.key slot = some k) (hplace : hasPlace n slot k s = true) :
    (issueGrant n slot tag d s).1.holdersLawful := by
  have hframe := issueGrant_frame n slot tag d s hw.1
  have hholds (m : LaneIx) (x : Nat) : (issueGrant n slot tag d s).1.holds m x = true ↔
      s.holds m x = true ∨ (m = n ∧ x = slot) := by
    rw [holds_iff, holds_iff]
    by_cases hm : m = n
    · subst hm
      rw [issueGrant_holdings_same, mem_insertSlot]
      simp [or_comm]
    · rw [issueGrant_holdings_other hm]
      simp [hm]
  rw [holdersLawful_iff, hframe]
  obtain ⟨hcount, hheld⟩ := (holdersLawful_iff s).mp hs
  refine ⟨fun e he => ?_, fun m x hx => ?_⟩
  · have hbefore := hcount e he
    by_cases hsame : e.1 = slot ∧ s.holds n slot = false
    · obtain ⟨rfl, hnew⟩ := hsame
      obtain ⟨⟨i, k'⟩, hmem, rfl⟩ := List.mem_map.mp he
      have hk' : k' = k := Option.some.inj ((lookupKey_of_mem hw.1 hmem).symm.trans hkey)
      have hlt : s.holderCount i < k.c := by
        rw [hasPlace, hnew] at hplace
        simpa using hplace
      subst hk'
      exact Nat.le_trans (length_filter_le_succ allLanes_nodup n fun m hm hq =>
        ((hholds m i).mp hq).resolve_right fun h => hm h.1) hlt
    · refine Nat.le_trans (length_filter_le fun m hq => ?_) hbefore
      rcases (hholds m e.1).mp hq with h | ⟨rfl, hx⟩
      · exact h
      · rw [hx] at hsame ⊢
        simpa using hsame
  · rcases (hholds m x).mp ((holds_iff _ m x).mpr hx) with h | ⟨-, rfl⟩
    · exact hheld m x ((holds_iff s m x).mp h)
    · exact List.mem_map.mpr ⟨_, List.mem_map.mpr ⟨_, mem_of_lookupKey hkey, rfl⟩, rfl⟩

end Sys2Proof.Machine
end

section
/-! PROOFS. The law of the Key Table and the law of holders under every command and every step (O4, O7). -/

namespace Sys2Proof.Machine

/-! ## A law of keys and holdings -/

/-- A law that a rewrite in place with shrinking holdings keeps, and a grant under the limit, a LOAD KEY, a PURGE KEY and the clearing
of the Retained Domain. -/
structure KeyLaw (P : State → Prop) : Prop where
  shrinks : ∀ {s t}, Shrinks s t → P s → P t
  grant : ∀ n slot tag d s k, s.key slot = some k → hasPlace n slot k s = true → P s → P (issueGrant n slot tag d s).1
  loadKey : ∀ f kind s, P s → P (loadKey f kind s).1
  purgeKey : ∀ slot kind s, P s → P (purgeKey slot kind s).1
  cleared : ∀ s, P s → P (clearRetained s)

/-- A passing check of a new start has found a key and a place under its limit. -/
theorem place_of_openingCheck {n : LaneIx} {slot : Nat} {label : Label} {d : Nat} {s : State}
    (h : (openingCheck false n slot label d s).refusal = none) : ∃ k, s.key slot = some k ∧ hasPlace n slot k s = true := by
  obtain ⟨-, k, hkey, -, -, hplace⟩ := (openingCheck_none_iff false n slot label d s).mp h
  exact ⟨k, hkey, hplace.resolve_left (by decide)⟩

theorem noteCheck_of_pass {n : LaneIx} {slot : Nat} {report : CheckReport} (s : State) (h : report.refusal = none) :
    noteCheck n slot report s = s := by
  rw [noteCheck, h, if_neg (by decide)]

theorem Retains.hasPlace {s t : State} (h : Retains s t) (n : LaneIx) (slot : Nat) (k : Key) :
    hasPlace n slot k t = hasPlace n slot k s := by
  have hholds (m : LaneIx) (x : Nat) : t.holds m x = s.holds m x := by simp only [State.holds, h.holdings]
  have hcount : t.holderCount slot = s.holderCount slot := by simp only [State.holderCount, hholds]
  rw [Machine.hasPlace, Machine.hasPlace, hholds, hcount]

namespace KeyLaw

variable {P : State → Prop} (h : KeyLaw P)
include h

theorem retains {s t : State} (hst : Retains s t) : P s → P t := h.shrinks hst.shrinks

theorem changeGrant {n : LaneIx} (a : ActiveReel) {p : PendingReel} {k : Key} {s : State} (hkey : s.key p.slot = some k)
    (hplace : hasPlace n p.slot k s = true) (hs : P s) : P (changeGrant n a p s) := by
  have hwithdraw := withdraw_retains n a s
  have hgranted := h.grant n p.slot p.tag p.d _ k ((hwithdraw.key _).trans hkey) ((hwithdraw.hasPlace n p.slot k).trans hplace)
    (h.retains hwithdraw hs)
  exact h.retains ((setLane_retains _ n _).trans (notify_retains _ n _)) hgranted

theorem newGrantBoundary (n : LaneIx) (a : ActiveReel) (p : PendingReel) (s : State) (hs : P s) :
    P (newGrantBoundary n a p s) := by
  unfold Machine.newGrantBoundary
  dsimp only
  split
  · exact h.retains (endShow_retains n _ _) (h.shrinks (noteCheck_shrinks n _ _ s) hs)
  · next hpass =>
    rw [noteCheck_of_pass s hpass]
    obtain ⟨k, hkey, hplace⟩ := place_of_openingCheck hpass
    split
    · exact h.retains (quarantine_retains n _ s) hs
    · exact h.changeGrant a hkey hplace hs

theorem laneTick (n : LaneIx) (s : State) (hs : P s) : P (laneTick n s) := by
  have hboundary (a : ActiveReel) (s : State) (hs : P s) : P (reachBoundary n a s) := by
    unfold reachBoundary
    split
    · exact h.retains (completeShow_retains n s) hs
    · split
      · exact h.retains (continuationBoundary_retains n _ _ s) hs
      · exact h.newGrantBoundary n _ _ s hs
  unfold Machine.laneTick
  dsimp only
  split
  · split
    · exact hboundary _ _ (h.retains (setLane_retains s n _) hs)
    · exact h.retains (setLane_retains s n _) hs
  · split
    · exact h.retains ((setLane_retains s n _).trans (endShow_retains n _ _)) hs
    · exact h.retains (setLane_retains s n _) hs
  · exact h.retains (setLane_retains s n _) hs

theorem newStart (n : LaneIx) (slot : Nat) (label : Label) (d : Nat) (tag : ReelTag) (s : State) (hs : P s) :
    P (newStart n slot label d tag s).1 := by
  unfold Machine.newStart
  dsimp only
  split
  · exact h.shrinks (noteCheck_shrinks n slot _ s) hs
  · next hpass =>
    obtain ⟨k, hkey, hplace⟩ := place_of_openingCheck hpass
    have hgranted := h.grant n slot tag d s k hkey hplace hs
    split
    · exact h.retains ((setLane_retains _ n _).trans (enterHeld_retains n _ _ _)) hgranted
    · exact h.retains (setLane_retains _ n _) hgranted

theorem queueReel (n : LaneIx) (slot : Nat) (label : Label) (d : Nat) (tie : Bool) (tag : ReelTag) (s : State) (hs : P s) :
    P (queueReel n slot label d tie tag s).1 := by
  unfold Machine.queueReel
  split
  · exact hs
  · split
    · exact hs
    · split
      · exact h.newStart n slot label d tag s hs
      · exact h.retains (storePending_retains n _ s) hs
      · exact h.retains (storePending_retains n _ s) hs
      all_goals exact hs

theorem answerScreen (n : LaneIx) (r : Request) (s : State) (hs : P s) : P (answerScreen n r s).1 := by
  have hadmit (allows : Binding → Bool) (kind : Byte) (owner : State → State × Reply) (ho : P (owner s).1) :
      P (underEntry n allows kind owner s).1 := by
    unfold underEntry
    split
    · exact hs
    · split
      · exact hs
      · exact ho
  cases r with
  | announce identity => exact h.retains (announce_retains n identity _ s) hs
  | queueReel => exact hadmit _ _ _ (h.queueReel n _ _ _ _ _ s hs)
  | stopShow => exact hadmit _ _ _ (h.retains (stopShow_retains n s) hs)
  | holdShow => exact hadmit _ _ _ (h.retains (holdShow_retains n s) hs)
  | resumeShow => exact hadmit _ _ _ (h.retains (resumeShow_retains n s) hs)
  | erased => exact hadmit _ _ _ (h.shrinks (erasedAt_shrinks n _ s) hs)
  | erasedAll => exact hadmit _ _ _ (h.shrinks (erasedAllAt_shrinks n s) hs)
  | laneStatus lane => exact hadmit _ _ _ (by rw [laneStatus_same]; exact hs)
  | clockStatus => exact hadmit _ _ _ hs
  | _ => exact hs

theorem answersKeep : AnswersKeep (fun s t => P s → P t) where
  refl _ := id
  trans h k := k ∘ h
  framer _ _ _ := h.retains ⟨rfl, fun _ => rfl⟩
  clock _ _ _ := h.retains ⟨rfl, fun _ => rfl⟩
  raise s e := h.retains (raise_retains s e)
  evaluateSlot slot s := h.shrinks (evaluateSlot_shrinks slot s)
  laneTick := h.laneTick
  oweLane n s := h.retains (setLane_retains s n _)
  countDownLane n s := h.retains (countDownLane_retains n s)
  timeOutWithdrawals n s := h.retains (timeOutWithdrawals_retains n s)
  timeOutClearing n s := h.retains (timeOutClearing_retains n s)
  portTick n s := by
    obtain ⟨p, hp⟩ := portTick_quiet n s
    exact h.retains ((setPort_retains s n p).trans hp.retains)
  recheckAt n s := h.retains (recheckAt_retains n s)
  screen := h.answerScreen
  loadKey := h.loadKey
  revokeKey slot kind s := h.shrinks (revokeKey_shrinks slot kind s)
  purgeKey := h.purgeKey
  setPort port identity role classes kind s := h.retains (setPortRequest_retains port identity role classes kind s)
  laneParams n _ _ _ s := h.retains (setLane_retains s n _)
  restoreLane lane s := h.retains (restoreLane_retains lane s)
  voidHoldings lane s := h.shrinks (voidHoldings_shrinks lane s)
  flags _ _ _ _ := h.retains ⟨rfl, fun _ => rfl⟩
  clearKeyMark slot s := h.shrinks (clearKeyMark_shrinks slot s)
  clearLaneMark named n s := h.retains (by
    unfold clearLaneMark
    split
    · exact setLane_retains s n _
    · exact .refl s)
  zeroCounters _ := h.retains ⟨rfl, fun _ => rfl⟩

theorem link {s : State} (p : PortId) (l : Link) : P s → P (s.setLink p l) :=
  h.retains ⟨setLink_keys s p l, fun n => by rw [rel_setLink]⟩

theorem commandsKeep : CommandsKeep (fun s t => P s → P t) where
  toEventsKeep := h.answersKeep.toEventsKeep
  period _ _ := h.retains ⟨rfl, fun _ => rfl⟩
  handle p tag r s _ hs := by
    have hkept (u : State) (k : Option PortId) : P u → P { u with kept := k } := h.retains ⟨rfl, fun _ => rfl⟩
    have hbegin : P (beginTaking p s) := hkept _ _ (h.link p { s.link p with buffer := none } hs)
    exact hkept _ _ (h.link p _ (h.answersKeep.answer p r _ hbegin))
  frameError p s := by
    cases p with
    | mgmt => exact h.link .mgmt _
    | screen n =>
      rw [frameError_screen]
      split
      · exact h.retains (((setPort_retains s n _).trans (setPort_retains _ n _)).trans (raise_retains _ _))
      · exact h.retains (setPort_retains s n _)
  receiver _ p _ := h.link p _
  fill _ p _ := h.link p _
  sent _ p _ _ _ := h.link p _
  holdLevel _ _ _ := h.retains ⟨rfl, fun _ => rfl⟩
  assertAt n s := h.retains (assertAt_retains n s)
  releaseAt n s := h.retains (releaseAt_retains n s)
  supply _ _ := h.retains ⟨rfl, fun _ => rfl⟩
  restart s := h.retains ⟨rfl, fun n => by
    have hrel : (restartBlocks s).rel n = (s.rel n).afterReset := get_map s.releases Release.afterReset n
    rw [hrel]; rfl⟩

theorem step_keeps (s t : State) (hs : P s) (hstep : step s = .next t) : P t :=
  step_keeps_of_commands h.commandsKeep h.cleared (fun _ _ => h.retains ⟨rfl, fun _ => rfl⟩) s t hs hstep

end KeyLaw

/-! ## LOAD KEY and PURGE KEY -/

/-- A LOAD KEY that passes its checks found its slot EMPTY and its label free (R53). -/
theorem loadChecks_ok {f : LoadFields} {material : Material} {s : State} (h : loadChecks f s = .ok material) :
    f.slot < 512 ∧ s.key f.slot = none ∧ ∀ e ∈ s.keys, e.2.label ≠ f.label := by
  unfold loadChecks at h
  split at h
  · exact absurd h nofun
  · next hslot =>
    split at h
    · exact absurd h nofun
    · next hempty =>
      split at h
      · exact absurd h nofun
      · next hlabel => exact ⟨by simpa [slotInRange] using hslot, by simpa using hempty, by simpa [labelInUse] using hlabel⟩

theorem loadedAndJudged_label (f : LoadFields) (material : Material) (s : State) :
    (loadedAndJudged f material s).label = f.label := by
  unfold loadedAndJudged
  dsimp only
  split <;> rfl

/-- A record written into an EMPTY slot is one entry more. -/
theorem insertKey_perm {slot : Nat} {k : Key} {table : List (Nat × Key)} (h : lookupKey slot table = none) :
    (insertKey slot k table).Perm ((slot, k) :: table) := by
  induction table with
  | nil => exact .refl _
  | cons e rest ih =>
    obtain ⟨i, x⟩ := e
    unfold lookupKey at h
    unfold insertKey
    split at h
    · exact absurd h nofun
    · next hne =>
      split
      · exact .refl _
      · rw [if_neg (Ne.symm hne)]
        exact ((ih h).cons _).trans (.swap _ _ _)

theorem loadKey_cases (f : LoadFields) (kind : Byte) (s : State) : (loadKey f kind s).1 = s
    ∨ ∃ k e, f.slot < 512 ∧ s.key f.slot = none ∧ (∀ e ∈ s.keys, e.2.label ≠ k.label)
      ∧ (loadKey f kind s).1 = (s.setKey f.slot k).raise e := by
  unfold loadKey
  cases hchecks : loadChecks f s with
  | error refusal => exact .inl rfl
  | ok material =>
    obtain ⟨hslot, hempty, hlabel⟩ := loadChecks_ok hchecks
    exact .inr ⟨loadedAndJudged f material s, _, hslot, hempty, by rwa [loadedAndJudged_label], rfl⟩

theorem purgeKey_cases (slot : Nat) (kind : Byte) (s : State) : (purgeKey slot kind s).1 = s
    ∨ ∃ e, s.holderCount slot = 0 ∧ (purgeKey slot kind s).1 = (s.emptySlot slot).raise e := by
  unfold purgeKey
  split
  · exact .inl rfl
  · split
    · exact .inl rfl
    · split
      · exact .inl rfl
      · next hunheld => exact .inr ⟨_, Nat.eq_zero_of_not_pos hunheld, rfl⟩

/-! ## The Key Table -/

theorem setKey_tableLawful {s : State} {slot : Nat} {k : Key} (hslot : slot < 512) (hempty : s.key slot = none)
    (hlabel : ∀ e ∈ s.keys, e.2.label ≠ k.label) (hs : s.tableLawful) : (s.setKey slot k).tableLawful := by
  refine ⟨insertKey_wf k hslot hs.1, ((insertKey_perm hempty).map _).nodup_iff.mpr ?_⟩
  rw [List.map_cons, List.nodup_cons]
  refine ⟨fun hmem => ?_, hs.2⟩
  obtain ⟨e, he, heq⟩ := List.mem_map.mp hmem
  exact hlabel e he heq

theorem emptySlot_tableLawful {s : State} (slot : Nat) (hs : s.tableLawful) : (s.emptySlot slot).tableLawful :=
  ⟨removeKey_wf slot hs.1, hs.2.sublist (List.filter_sublist.map _)⟩

theorem raise_tableLawful {s : State} (e : Event) (hs : s.tableLawful) : (s.raise e).tableLawful :=
  (FrameStays.of_keys (raise_keys s e)).lawful hs

theorem tableLawful_law : KeyLaw State.tableLawful where
  shrinks h := h.frame.lawful
  grant n slot tag d s _ _ _ := (issueGrant_frame n slot tag d s).lawful
  loadKey f kind s hs := by
    rcases loadKey_cases f kind s with hsame | ⟨k, e, hslot, hempty, hlabel, hloaded⟩
    · rw [hsame]; exact hs
    · rw [hloaded]; exact raise_tableLawful e (setKey_tableLawful hslot hempty hlabel hs)
  purgeKey slot kind s hs := by
    rcases purgeKey_cases slot kind s with hsame | ⟨e, -, hpurged⟩
    · rw [hsame]; exact hs
    · rw [hpurged]; exact raise_tableLawful e (emptySlot_tableLawful slot hs)
  cleared _ _ := ⟨⟨.nil, fun _ h => absurd h List.not_mem_nil⟩, .nil⟩

/-- Settles O4: a record is rewritten under its label, written under a label in no use, or taken out. -/
theorem stepKeepsKeyTable : Obligations.StepKeepsKeyTable := tableLawful_law.step_keeps

/-! ## Holders -/

theorem raise_holders {s : State} (e : Event) (hw : keysWf s.keys) (hs : s.holdersLawful) : (s.raise e).holdersLawful :=
  (raise_retains s e).shrinks.holders hw hs

/-- A record written into an EMPTY slot: nobody holds the slot (R65). -/
theorem setKey_holders {s : State} {slot : Nat} (k : Key) (hw : keysWf s.keys) (hempty : s.key slot = none)
    (hs : s.holdersLawful) : (s.setKey slot k).holdersLawful := by
  obtain ⟨hcount, hheld⟩ := hs
  refine ⟨fun e he => ?_, fun n x hx => ?_⟩
  · rcases (mem_insertKey_of_wf hw e).mp he with rfl | ⟨hmem, -⟩
    · have hnone : allLanes.filter (fun n => s.holds n slot) = [] := by
        rw [List.filter_eq_nil_iff]
        intro n _ hholds
        have := hheld n slot ((holds_iff s n slot).mp hholds)
        rw [hempty] at this
        exact absurd this (by decide)
      exact Nat.le_trans (Nat.le_of_eq (congrArg List.length hnone)) (Nat.zero_le _)
    · exact hcount e hmem
  · have hoccupied := hheld n x hx
    have hne : x ≠ slot := fun heq => by rw [heq, hempty] at hoccupied; exact absurd hoccupied (by decide)
    rw [key_setKey_other _ _ hne]
    exact hoccupied

theorem emptySlot_holders {s : State} {slot : Nat} (hunheld : s.holderCount slot = 0) (hs : s.holdersLawful) :
    (s.emptySlot slot).holdersLawful := by
  obtain ⟨hcount, hheld⟩ := hs
  refine ⟨fun e he => hcount e (List.mem_filter.mp he).1, fun n x hx => ?_⟩
  have hne : x ≠ slot := by
    rintro rfl
    have hmem : n ∈ allLanes.filter (fun n => s.holds n x) :=
      List.mem_filter.mpr ⟨mem_allLanes n, (holds_iff s n x).mpr hx⟩
    rw [List.length_eq_zero_iff.mp hunheld] at hmem
    exact absurd hmem List.not_mem_nil
  rw [key_emptySlot_other _ hne]
  exact hheld n x hx

theorem clearRetained_holdings (s : State) (n : LaneIx) : ((clearRetained s).rel n).holdings = [] := by
  simp [clearRetained, State.rel]

/-- The law of holders stands on the canonical form of the table. -/
theorem holdersLawful_law : KeyLaw (fun s => s.tableLawful ∧ s.holdersLawful) where
  shrinks h hs := ⟨h.frame.lawful hs.1, h.holders hs.1.1 hs.2⟩
  grant n slot tag d s _ hkey hplace hs :=
    ⟨(issueGrant_frame n slot tag d s).lawful hs.1, issueGrant_holders tag d hs.1 hs.2 hkey hplace⟩
  loadKey f kind s hs := by
    refine ⟨tableLawful_law.loadKey f kind s hs.1, ?_⟩
    rcases loadKey_cases f kind s with hsame | ⟨k, e, hslot, hempty, -, hloaded⟩
    · rw [hsame]; exact hs.2
    · rw [hloaded]
      exact raise_holders e (insertKey_wf k hslot hs.1.1) (setKey_holders k hs.1.1 hempty hs.2)
  purgeKey slot kind s hs := by
    refine ⟨tableLawful_law.purgeKey slot kind s hs.1, ?_⟩
    rcases purgeKey_cases slot kind s with hsame | ⟨e, hunheld, hpurged⟩
    · rw [hsame]; exact hs.2
    · rw [hpurged]
      exact raise_holders e (removeKey_wf slot hs.1.1) (emptySlot_holders hunheld hs.2)
  cleared s hs := by
    refine ⟨tableLawful_law.cleared s hs.1, fun e he => absurd he List.not_mem_nil, fun n slot hslot => ?_⟩
    rw [clearRetained_holdings] at hslot
    exact absurd hslot List.not_mem_nil

/-- Settles O7: a slot enters a lane's holdings by a grant alone, and a grant needs a place under the limit (R122, R131). -/
theorem stepKeepsConcurrencyLimit : Obligations.StepKeepsConcurrencyLimit :=
  fun s t htable hholders hstep => (holdersLawful_law.step_keeps s t ⟨htable, hholders⟩ hstep).2

end Sys2Proof.Machine
end

section
/-! PROOFS. What the operations of the Release Unit and the Lane Controller make of their own lane and its items, operation by
operation (R76, R77, R101, R135 to R148). -/

namespace Sys2Proof.Machine

/-! ## A lane without its show, and its items withdrawn or cancelled -/

/-- A lane in a state without a show (R76, R77). -/
def Lane.endedIn (l : Lane) (st : LaneState) : Lane :=
  { l with
    state := st, active := none, pending := none, screenHold := false, siteHold := false, holdTimer := none,
    holdLimit := none, tickOwed := false }

/-- The items of a lane with every deadline cancelled (R136, R144). -/
def Release.cancelled (r : Release) : Release :=
  { r with outstanding := r.outstanding.map (fun e => { e with countdown := none }), clearing := none }

/-- The items of a lane with a grant withdrawn (R135). -/
def Release.withdrawing (r : Release) (a : ActiveReel) (wt : Nat) : Release :=
  { r with outstanding := r.outstanding ++ [{ serial := a.serial, slot := a.slot, countdown := some wt }] }

/-- The items of a lane with a new grant on a slot (R130, R131). -/
def Release.granting (r : Release) (slot : Nat) : Release :=
  { r with nextSerial := nextSerialAfter r.takenSerial, holdings := insertSlot slot r.holdings }

theorem Release.listFull_iff (r : Release) : r.listFull = true ↔ ¬ r.outstanding.length < 4 :=
  decide_eq_true_iff.trans Nat.not_lt.symm

/-! ## Ends of shows -/

theorem dropShow_eq (n : LaneIx) (st : LaneState) (s : State) : dropShow n st s = s.setLane n ((s.lane n).endedIn st) := rfl

theorem cancelDeadlines_eq (n : LaneIx) (s : State) : cancelDeadlines n s = s.setRel n (s.rel n).cancelled := rfl

theorem lane_reportShowEnd (n m : LaneIx) (l : Lane) (reason : ShowReason) (s : State) :
    (reportShowEnd n l reason s).lane m = s.lane m := (reportShowEnd_quiet n l reason s).lane m

theorem rel_reportShowEnd (n m : LaneIx) (l : Lane) (reason : ShowReason) (s : State) :
    (reportShowEnd n l reason s).rel m = s.rel m := (reportShowEnd_quiet n l reason s).rel m

theorem quarantine_same {n : LaneIx} {cause : QuarantineCause} {s : State} (h : (s.lane n).state = .quarantine) :
    quarantine n cause s = s := by rw [quarantine, if_pos h]

theorem lane_quarantine {n : LaneIx} (cause : QuarantineCause) {s : State} (h : (s.lane n).state ≠ .quarantine) :
    (quarantine n cause s).lane n = (s.lane n).endedIn .quarantine := by
  rw [quarantine, if_neg h]
  simp only [recordQuarantine, cancelDeadlines_eq, lane_raise, lane_setRel, dropShow_eq]
  split
  · rw [lane_reportShowEnd, lane_setLane_same]
  · rw [lane_setLane_same]

theorem rel_quarantine {n : LaneIx} (cause : QuarantineCause) {s : State} (h : (s.lane n).state ≠ .quarantine) :
    (quarantine n cause s).rel n = (s.rel n).cancelled := by
  rw [quarantine, if_neg h]
  simp only [recordQuarantine, cancelDeadlines_eq, rel_raise, rel_setRel_same, dropShow_eq]
  split
  · rw [rel_reportShowEnd, rel_setLane]
  · rw [rel_setLane]

@[simp] theorem lane_withdraw (n m : LaneIx) (a : ActiveReel) (s : State) : (withdraw n a s).lane m = s.lane m := by
  simp [withdraw]

theorem rel_withdraw (n : LaneIx) (a : ActiveReel) (s : State) :
    (withdraw n a s).rel n = (s.rel n).withdrawing a (s.lane n).wt := by
  simp [withdraw, Release.withdrawing]

/-- An operation that leaves lane n and its items alone: what goes out between a WITHDRAW and its SHOW ENDED (R79). -/
structure Spares (n : LaneIx) (f : State → State) : Prop where
  lane : ∀ s, (f s).lane n = s.lane n
  rel : ∀ s, (f s).rel n = s.rel n

theorem Spares.id (n : LaneIx) : Spares n id := ⟨fun _ => rfl, fun _ => rfl⟩

theorem endShowWith_none {n : LaneIx} {reason : ShowReason} {f : State → State} {s : State} (h : (s.lane n).active = none) :
    endShowWith n reason f s = s := by
  rw [endShowWith, h]

theorem lane_endShowWith {n : LaneIx} {reason : ShowReason} {f : State → State} (hf : Spares n f) {s : State}
    (hactive : (s.lane n).active.isSome = true) (hst : (s.lane n).state ≠ .quarantine) :
    (endShowWith n reason f s).lane n = (s.lane n).endedIn (s.endedState n) := by
  obtain ⟨a, ha⟩ := Option.isSome_iff_exists.mp hactive
  simp only [endShowWith, ha, Release.listFull_iff, State.endedState]
  split
  · rw [lane_quarantine _ (by rwa [hf.lane]), hf.lane]
  · next hplace =>
    rw [lane_reportShowEnd, dropShow_eq, lane_setLane_same, hf.lane, lane_withdraw, if_pos (not_not.mp hplace)]

theorem rel_endShowWith_of_place {n : LaneIx} {reason : ShowReason} {f : State → State} (hf : Spares n f) {a : ActiveReel}
    {s : State} (hactive : (s.lane n).active = some a) (hplace : (s.rel n).outstanding.length < 4) :
    (endShowWith n reason f s).rel n = (s.rel n).withdrawing a (s.lane n).wt := by
  have hlist : ¬ (s.rel n).listFull = true := by rw [Release.listFull_iff]; exact not_not.mpr hplace
  simp only [endShowWith, hactive, if_neg hlist]
  rw [rel_reportShowEnd, dropShow_eq, rel_setLane, hf.rel, rel_withdraw]

theorem rel_endShowWith_of_full {n : LaneIx} {reason : ShowReason} {f : State → State} (hf : Spares n f) {s : State}
    (hactive : (s.lane n).active.isSome = true) (hst : (s.lane n).state ≠ .quarantine)
    (hfull : 4 ≤ (s.rel n).outstanding.length) : (endShowWith n reason f s).rel n = (s.rel n).cancelled := by
  obtain ⟨a, ha⟩ := Option.isSome_iff_exists.mp hactive
  have hlist : (s.rel n).listFull = true := by rw [Release.listFull_iff]; exact Nat.not_lt.mpr hfull
  simp only [endShowWith, ha, if_pos hlist]
  rw [rel_quarantine _ (by rwa [hf.lane]), hf.rel]

theorem screenErased_eq_of_running {n : LaneIx} {s : State} (h : (s.lane n).state.running = true) :
    screenErased n s = reportShowEnd n (s.lane n) .screenErased (s.setLane n ((s.lane n).endedIn .idle)) := by
  rw [screenErased, if_pos h, dropShow_eq]

theorem lane_screenErased_of_running {n : LaneIx} {s : State} (h : (s.lane n).state.running = true) :
    (screenErased n s).lane n = (s.lane n).endedIn .idle := by
  rw [screenErased_eq_of_running h, lane_reportShowEnd, lane_setLane_same]

@[simp] theorem rel_screenErased (n m : LaneIx) (s : State) : (screenErased n s).rel m = s.rel m := by
  unfold screenErased
  split
  · rw [rel_reportShowEnd, dropShow_eq, rel_setLane]
  · rfl

/-! ## Grants -/

@[simp] theorem lane_issueGrant (n m : LaneIx) (slot : Nat) (tag : ReelTag) (d : Nat) (s : State) :
    (issueGrant n slot tag d s).1.lane m = s.lane m := by
  unfold issueGrant
  dsimp only
  split <;> simp

theorem rel_issueGrant (n : LaneIx) (slot : Nat) (tag : ReelTag) (d : Nat) (s : State) :
    (issueGrant n slot tag d s).1.rel n = (s.rel n).granting slot := by
  unfold issueGrant
  dsimp only
  split <;> simp [Release.granting]

theorem issueGrant_serial (n : LaneIx) (slot : Nat) (tag : ReelTag) (d : Nat) (s : State) :
    (issueGrant n slot tag d s).2 = (s.rel n).takenSerial := by
  unfold issueGrant
  dsimp only
  split <;> rfl

theorem changeGrant_eq (n : LaneIx) (a : ActiveReel) (p : PendingReel) (s : State) : changeGrant n a p s =
    let granted := (issueGrant n p.slot p.tag p.d (withdraw n a s)).1
    let serial := ((s.rel n).withdrawing a (s.lane n).wt).takenSerial
    (granted.setLane n { s.lane n with
      active := some { slot := p.slot, label := p.label, tag := p.tag, r := p.d, serial := serial }, pending := none }).notify n
      (.bufferFree .loaded p.tag (some serial)) := by
  simp only [changeGrant, issueGrant_serial, rel_withdraw, lane_issueGrant, lane_withdraw]

theorem rel_noteCheck (n m : LaneIx) (slot : Nat) (report : CheckReport) (s : State) :
    (noteCheck n slot report s).rel m = s.rel m := by
  unfold noteCheck noteOversubscribed
  split
  · split <;> simp
  · rfl

/-! ## Clearings and bindings -/

theorem lane_startClearing (n : LaneIx) (s : State) : (startClearing n s).lane n = { s.lane n with state := .clearing } := by
  simp [startClearing]

theorem rel_startClearing (n : LaneIx) (s : State) :
    (startClearing n s).rel n = { s.rel n with clearing := some (s.lane n).wt } := by
  simp [startClearing]

theorem laneUnbind_eq (n : LaneIx) (s : State) : laneUnbind n s =
    (s.setLane n ((s.lane n).endedIn .offline)).setRel n { (s.rel n).cancelled with
      clearRequired := (s.rel n).clearRequired || !(s.rel n).holdings.isEmpty } := by
  simp [laneUnbind, dropShow_eq, cancelDeadlines_eq, Release.cancelled]

end Sys2Proof.Machine
end

section
/-! PROOFS. The law of a lane and its items under each change that an operation makes of them (R73 to R76, R130, R133, R134, R148,
R149). -/

namespace Sys2Proof.Machine

/-! ## What the law of grants follows -/

/-- The law of grants where fewer grants stand, under the same serials and on slots still held. -/
theorem GrantsLawful.shrink {l l' : Lane} {r r' : Release} (h : GrantsLawful l r)
    (hlen : r'.outstanding.length ≤ 4) (hserials : (namedSerials l' r').Subperm (namedSerials l r))
    (hslots : ∀ slot ∈ namedSlots l' r', slot ∈ r'.holdings) (hheld : r'.holdings.Sublist r.holdings := by exact List.Sublist.refl _)
    (hnext : r'.nextSerial = r.nextSerial := by rfl) : GrantsLawful l' r' := by
  obtain ⟨-, hnodup, hrange, hserial, -, hsorted, hfive⟩ := h
  refine ⟨hlen, ?_, fun serial hmem => hrange serial (hserials.subset hmem), by rwa [hnext], hslots, hsorted.sublist hheld,
    hheld.length_le.trans hfive⟩
  obtain ⟨l0, hperm, hsub⟩ := hserials
  exact hperm.nodup_iff.mp (hnodup.sublist hsub)

/-- The serials and slots of a lane without its show are those of its entries. -/
theorem namedSerials_of_none {l : Lane} {r : Release} (h : l.active = none) :
    namedSerials l r = r.outstanding.map (fun e => e.serial) := by simp [namedSerials, h]

theorem namedSlots_of_none {l : Lane} {r : Release} (h : l.active = none) :
    namedSlots l r = r.outstanding.map (fun e => e.slot) := by simp [namedSlots, h]

theorem namedSerials_of_active {l : Lane} {r : Release} {a : ActiveReel} (h : l.active = some a) :
    namedSerials l r = a.serial :: r.outstanding.map (fun e => e.serial) := by simp [namedSerials, h]

theorem namedSlots_of_active {l : Lane} {r : Release} {a : ActiveReel} (h : l.active = some a) :
    namedSlots l r = a.slot :: r.outstanding.map (fun e => e.slot) := by simp [namedSlots, h]

theorem outstanding_serials_sublist (l : Lane) (r : Release) :
    (r.outstanding.map (fun e => e.serial)).Sublist (namedSerials l r) := List.sublist_append_right _ _

theorem outstanding_slots_subset (l : Lane) (r : Release) :
    ∀ slot ∈ r.outstanding.map (fun e => e.slot), slot ∈ namedSlots l r := fun _ => List.mem_append_right _

/-- Cancelled or counted down, the entries keep their serials and slots. -/
theorem cancelled_serials (r : Release) : r.cancelled.outstanding.map (fun e => e.serial) = r.outstanding.map (fun e => e.serial) := by
  simp [Release.cancelled]

theorem cancelled_slots (r : Release) : r.cancelled.outstanding.map (fun e => e.slot) = r.outstanding.map (fun e => e.slot) := by
  simp [Release.cancelled]

/-- A lane in service is not in CLEARING. -/
theorem LaneState.not_clearing {st : LaneState} (h : st.inService = true) : (st == .clearing) = false := by
  revert h
  cases st <;> decide

theorem LaneState.inService_of_running {st : LaneState} (h : st.running = true) : st.inService = true := by
  simp [LaneState.inService, h]

/-! ## A lane without its show -/

theorem ShowLawful.endedIn (l : Lane) {st : LaneState} (h : st.running = false) : ShowLawful (l.endedIn st) := by
  have hheld : (st == .held) = false := by
    revert h
    cases st <;> decide
  exact ⟨h.symm, nofun, hheld.symm, hheld.symm, hheld.symm⟩

theorem GrantsLawful.cancelled {l : Lane} {r : Release} (h : GrantsLawful l r) (st : LaneState) :
    GrantsLawful (l.endedIn st) r.cancelled := by
  obtain ⟨hlen, -, -, -, hslots, -⟩ := id h
  refine h.shrink ((List.length_map _).trans_le hlen) ?_ fun slot hmem => ?_
  · rw [namedSerials_of_none rfl, cancelled_serials]
    exact (outstanding_serials_sublist l r).subperm
  · rw [namedSlots_of_none rfl, cancelled_slots] at hmem
    exact hslots slot (outstanding_slots_subset l r slot hmem)

/-- A lane in QUARANTINE (R144). -/
theorem LaneLawful.quarantined {l : Lane} {r : Release} (h : GrantsLawful l r) :
    LaneLawful (l.endedIn .quarantine) r.cancelled :=
  ⟨.endedIn l rfl, h.cancelled _, nofun, nofun, rfl⟩

/-- A lane that is OFFLINE, with the mark set where it holds a slot (R103, R149). -/
theorem LaneLawful.offline {l : Lane} {r : Release} (h : GrantsLawful l r) {mark : Bool} (hmark : r.holdings ≠ [] → mark = true) :
    LaneLawful (l.endedIn .offline) { r.cancelled with clearRequired := mark } :=
  ⟨.endedIn l rfl, h.cancelled _, nofun, fun _ => hmark, rfl⟩

/-- A lane in IDLE, its grant withdrawn (R77, R135). -/
theorem LaneLawful.withdrawn {l : Lane} {r : Release} {a : ActiveReel} (hgrants : GrantsLawful l r) (hholdings : HoldingsLawful l r)
    (hrun : l.state.running = true) (ha : l.active = some a) (hplace : r.outstanding.length < 4) (wt : Nat) :
    LaneLawful (l.endedIn .idle) (r.withdrawing a wt) := by
  obtain ⟨-, -, -, -, hslots, -⟩ := id hgrants
  obtain ⟨hservice, -, hclearing⟩ := hholdings
  have hin := LaneState.inService_of_running hrun
  obtain ⟨hnamed, hmark⟩ := hservice hin
  rw [namedSlots_of_active ha] at hslots hnamed
  have hsame : ∀ slot, slot ∈ namedSlots (l.endedIn .idle) (r.withdrawing a wt) ↔
      slot ∈ a.slot :: r.outstanding.map (fun e => e.slot) := by
    intro slot
    rw [namedSlots_of_none rfl]
    simp [Release.withdrawing, or_comm, eq_comm]
  refine ⟨.endedIn l rfl, hgrants.shrink (by simp [Release.withdrawing]; omega) ?_ fun slot hmem => hslots slot ((hsame slot).mp hmem),
    fun _ => ⟨fun slot hmem => (hsame slot).mpr (hnamed slot hmem), hmark⟩, nofun, ?_⟩
  · rw [namedSerials_of_none rfl, namedSerials_of_active ha]
    exact (show List.Perm _ _ by simp [Release.withdrawing]).subperm
  · rw [LaneState.not_clearing hin] at hclearing
    exact hclearing

/-! ## Countdowns -/

/-- Entries whose countdowns alone differ (R136). -/
theorem LaneLawful.counting {l : Lane} {r : Release} (h : LaneLawful l r) (f : Entry → Option Nat) {clearing : Option Nat}
    (hclearing : clearing.isSome = r.clearing.isSome) :
    LaneLawful l { r with outstanding := r.outstanding.map (fun e => { e with countdown := f e }), clearing := clearing } := by
  obtain ⟨hshow, ⟨hlen, hnodup, hrange, hserial, hslots, hsorted, hfive⟩, hservice, hoffline, hclear⟩ := h
  have hser : namedSerials l { r with outstanding := r.outstanding.map (fun e => { e with countdown := f e }), clearing := clearing }
      = namedSerials l r := by simp [namedSerials]
  have hslo : namedSlots l { r with outstanding := r.outstanding.map (fun e => { e with countdown := f e }), clearing := clearing }
      = namedSlots l r := by simp [namedSlots]
  refine ⟨hshow, ⟨by simpa using hlen, by rwa [hser], by rwa [hser], hserial, by rwa [hslo], hsorted, hfive⟩, ?_, hoffline,
    hclearing.trans hclear⟩
  rw [hslo]
  exact hservice

/-! ## Grants -/

theorem insertSlot_sorted (slot : Nat) {slots : List Nat} (h : slots.Pairwise (· < ·)) : (insertSlot slot slots).Pairwise (· < ·) := by
  induction slots with
  | nil => simp [insertSlot]
  | cons x xs ih =>
    rw [List.pairwise_cons] at h
    unfold insertSlot
    split
    · next hlt =>
      refine List.pairwise_cons.mpr ⟨fun y hy => ?_, List.pairwise_cons.mpr h⟩
      rcases List.mem_cons.mp hy with rfl | hy
      · exact hlt
      · exact hlt.trans (h.1 y hy)
    · split
      · exact List.pairwise_cons.mpr h
      · next hnlt hne =>
        refine List.pairwise_cons.mpr ⟨fun y hy => ?_, ih h.2⟩
        rcases (mem_insertSlot slot y xs).mp hy with rfl | hy
        · omega
        · exact h.1 y hy

theorem length_insertSlot_le (slot : Nat) (slots : List Nat) : (insertSlot slot slots).length ≤ slots.length + 1 := by
  induction slots with
  | nil => simp [insertSlot]
  | cons x xs ih =>
    unfold insertSlot
    split
    · simp
    · split
      · simp
      · simpa using ih

/-- Holdings that are the slots of at most four entries are at most four. -/
theorem length_holdings_le {r : Release} (hsorted : r.holdings.Pairwise (· < ·))
    (hnamed : ∀ slot ∈ r.holdings, slot ∈ r.outstanding.map (fun e => e.slot)) : r.holdings.length ≤ r.outstanding.length := by
  have hnodup : r.holdings.Nodup := hsorted.imp Nat.ne_of_lt
  simpa using (hnodup.subperm hnamed).length_le

/-- A new grant to a lane that runs no show, with a place on its list (R130, R131). The law of shows is the caller's. -/
theorem LaneLawful.granted {l l' : Lane} {r : Release} (hgrants : GrantsLawful l r) (hholdings : HoldingsLawful l r)
    (hnone : l.active = none) (hservice : l.state.inService = true) {a : ActiveReel} (ha : l'.active = some a)
    (hserial : a.serial = r.takenSerial) (hshow : ShowLawful l') (hrun : l'.state.running = true) :
    LaneLawful l' (r.granting a.slot) := by
  obtain ⟨hlen, hnodup, hrange, hnext, hslots, hsorted, -⟩ := hgrants
  obtain ⟨hin, -, hclearing⟩ := hholdings
  obtain ⟨hnamed, hmark⟩ := hin hservice
  rw [namedSerials_of_none hnone] at hnodup hrange
  rw [namedSlots_of_none hnone] at hslots hnamed
  have hfree : a.serial ∉ r.outstanding.map (fun e => e.serial) := by
    rw [hserial, ← carries_iff, takenSerial_free hlen hnext]
    decide
  have hbounds := freeSerial_bounds r.outstanding 4 hnext
  refine ⟨hshow, ⟨hlen, ?serials, ?range, nextSerialAfter_bounds hbounds, ?slots, insertSlot_sorted _ hsorted, ?five⟩, ?_, ?_, ?_⟩
  case serials =>
    rw [namedSerials_of_active ha]
    exact List.nodup_cons.mpr ⟨hfree, hnodup⟩
  case range =>
    rw [namedSerials_of_active ha]
    intro serial hmem
    rcases List.mem_cons.mp hmem with rfl | hmem
    · rw [hserial]; exact hbounds
    · exact hrange serial hmem
  case slots =>
    rw [namedSlots_of_active ha]
    intro slot hmem
    rw [Release.granting, mem_insertSlot]
    exact (List.mem_cons.mp hmem).imp_right (hslots slot)
  case five =>
    have h1 := length_insertSlot_le a.slot r.holdings
    have h2 := length_holdings_le hsorted hnamed
    have h3 : r.outstanding.length ≤ 4 := hlen
    exact h1.trans (by omega)
  · intro _
    refine ⟨fun slot hmem => ?_, hmark⟩
    rw [Release.granting, mem_insertSlot] at hmem
    rw [namedSlots_of_active ha]
    exact List.mem_cons.mpr (hmem.imp_right (hnamed slot))
  · intro hoff
    rw [hoff] at hrun
    exact absurd hrun (by decide)
  · rw [LaneState.not_clearing (LaneState.inService_of_running hrun), ← LaneState.not_clearing hservice]
    exact hclearing

/-! ## Lanes that run on -/

/-- A running lane with another lane of its own grant, running under the law of shows. -/
theorem LaneLawful.runsOn {l l' : Lane} {r : Release} (hgrants : GrantsLawful l r) (hholdings : HoldingsLawful l r)
    (hrun : l.state.running = true) (hrun' : l'.state.running = true) (hshow : ShowLawful l')
    (hserial : l'.active.map (fun a => a.serial) = l.active.map (fun a => a.serial) := by rfl)
    (hslot : l'.active.map (fun a => a.slot) = l.active.map (fun a => a.slot) := by rfl) : LaneLawful l' r := by
  have hser : namedSerials l' r = namedSerials l r := by simp only [namedSerials, hserial]
  have hslo : namedSlots l' r = namedSlots l r := by simp only [namedSlots, hslot]
  obtain ⟨hin, -, hclearing⟩ := hholdings
  have hservice := LaneState.inService_of_running hrun
  refine ⟨hshow, by simpa only [GrantsLawful, hser, hslo] using hgrants, fun _ => ?_, fun hoff => ?_, ?_⟩
  · rw [hslo]; exact hin hservice
  · rw [hoff] at hrun'; exact absurd hrun' (by decide)
  · rw [LaneState.not_clearing (LaneState.inService_of_running hrun'), ← LaneState.not_clearing hservice]
    exact hclearing

/-! ## The screen's confirmations (R138 to R142) -/

theorem mem_holdingsWithout (slot x : Nat) (holdings : List Nat) (outstanding : List Entry) (active : Option ActiveReel) :
    x ∈ holdingsWithout slot holdings outstanding active ↔ x ∈ holdings
      ∧ (x = slot → x ∈ outstanding.map (fun e => e.slot) ∨ x ∈ (active.map (fun a => a.slot)).toList) := by
  have hnamed : stillNamed slot outstanding active = true ↔
      slot ∈ outstanding.map (fun e => e.slot) ∨ slot ∈ (active.map (fun a => a.slot)).toList := by
    simp only [stillNamed, Bool.or_eq_true, List.any_eq_true, beq_iff_eq, Option.any_eq_true, List.mem_map, Option.mem_toList,
      Option.map_eq_some_iff]
  unfold holdingsWithout removeSlot
  split
  · next h =>
    exact ⟨fun hx => ⟨hx, fun heq => heq ▸ hnamed.mp h⟩, fun hx => hx.1⟩
  · next h =>
    rw [List.mem_filter, bne_iff_ne]
    exact and_congr_right fun _ => ⟨fun hne heq => absurd heq hne, fun hx heq => h (hnamed.mpr (heq ▸ hx heq))⟩

theorem holdingsWithout_sublist (slot : Nat) (holdings : List Nat) (outstanding : List Entry) (active : Option ActiveReel) :
    (holdingsWithout slot holdings outstanding active).Sublist holdings := by
  unfold holdingsWithout removeSlot
  split
  · exact List.Sublist.refl _
  · exact List.filter_sublist

/-- An entry confirmed leaves the list, and in service its slot leaves the holdings unless another grant names it (R138). -/
theorem LaneLawful.erasedEntry {l : Lane} {r : Release} (h : LaneLawful l r) {e : Entry} (he : e ∈ r.outstanding) :
    let rest := r.outstanding.filter (fun x => x.serial != e.serial)
    LaneLawful l { r with
      outstanding := rest
      holdings := if l.state.inService then holdingsWithout e.slot r.holdings rest l.active else r.holdings } := by
  intro rest
  obtain ⟨hshow, hgrants, hservice, hoffline, hclearing⟩ := h
  obtain ⟨hlen, hnodup, hrange, hserial, hslots, hsorted, hfive⟩ := id hgrants
  have hsub : rest.Sublist r.outstanding := List.filter_sublist
  have hserials : ((l.active.map (fun a => a.serial)).toList ++ rest.map (fun e => e.serial)).Subperm (namedSerials l r) :=
    ((hsub.map _).append_left _).subperm
  have hnamedRest : ∀ slot ∈ (l.active.map (fun a => a.slot)).toList ++ rest.map (fun e => e.slot), slot ∈ namedSlots l r :=
    fun slot hmem => ((hsub.map _).append_left _).subset hmem
  -- serials are distinct, so the entry taken out is the only one of its serial
  have honly : ∀ x ∈ r.outstanding, x ∈ rest ∨ x = e := by
    intro x hx
    by_cases hs : x.serial = e.serial
    · have hinj := List.inj_on_of_nodup_map (hnodup.sublist (outstanding_serials_sublist l r))
      exact .inr (hinj hx he hs)
    · exact .inl (List.mem_filter.mpr ⟨hx, by simpa using hs⟩)
  by_cases hin : l.state.inService = true
  · simp only [hin, if_true]
    obtain ⟨hnamed, hmark⟩ := hservice hin
    have hmem (slot : Nat) : slot ∈ holdingsWithout e.slot r.holdings rest l.active ↔
        slot ∈ (l.active.map (fun a => a.slot)).toList ++ rest.map (fun e => e.slot) := by
      rw [mem_holdingsWithout, List.mem_append]
      constructor
      · rintro ⟨hheld, hgone⟩
        rcases List.mem_append.mp (hnamed slot hheld) with hactive | hentry
        · exact .inl hactive
        · obtain ⟨x, hx, rfl⟩ := List.mem_map.mp hentry
          rcases honly x hx with hrest | rfl
          · exact .inr (List.mem_map.mpr ⟨x, hrest, rfl⟩)
          · exact (hgone rfl).symm
      · intro hstill
        exact ⟨hslots slot (hnamedRest slot (List.mem_append.mpr hstill)), fun _ => hstill.symm⟩
    refine ⟨hshow, hgrants.shrink (hsub.length_le.trans hlen) hserials (fun slot hslot => (hmem slot).mpr hslot)
      (holdingsWithout_sublist _ _ _ _), fun _ => ⟨fun slot hslot => (hmem slot).mp hslot, hmark⟩, fun hoff => ?_, hclearing⟩
    have hst : l.state = .offline := hoff
    rw [hst] at hin
    exact absurd hin (by decide)
  · simp only [hin]
    exact ⟨hshow, hgrants.shrink (hsub.length_le.trans hlen) hserials fun slot hslot => hslots slot (hnamedRest slot hslot),
      fun hno => absurd hno hin, hoffline, hclearing⟩

/-- The active grant confirmed: its slot leaves the holdings unless an entry names it (R139). -/
theorem LaneLawful.erasedActive {l : Lane} {r : Release} {a : ActiveReel} (h : LaneLawful l r) (hrun : l.state.running = true)
    (ha : l.active = some a) :
    LaneLawful (l.endedIn .idle) { r with holdings := holdingsWithout a.slot r.holdings r.outstanding none } := by
  obtain ⟨-, hgrants, hservice, -, hclearing⟩ := h
  obtain ⟨hlen, -, -, -, hslots, -⟩ := id hgrants
  obtain ⟨hnamed, hmark⟩ := hservice (LaneState.inService_of_running hrun)
  have hmem (slot : Nat) : slot ∈ holdingsWithout a.slot r.holdings r.outstanding none ↔
      slot ∈ r.outstanding.map (fun e => e.slot) := by
    rw [mem_holdingsWithout]
    constructor
    · rintro ⟨hheld, hgone⟩
      have hold := hnamed slot hheld
      rw [namedSlots_of_active ha] at hold
      rcases List.mem_cons.mp hold with rfl | hentry
      · exact (hgone rfl).resolve_right (by simp)
      · exact hentry
    · intro hentry
      exact ⟨hslots slot (outstanding_slots_subset l r slot hentry), fun _ => .inl hentry⟩
  refine ⟨.endedIn l rfl, hgrants.shrink hlen ?_ ?_ (holdingsWithout_sublist _ _ _ _), fun _ => ⟨?_, hmark⟩, nofun, ?_⟩
  · rw [namedSerials_of_none rfl]
    exact (outstanding_serials_sublist l r).subperm
  · rw [namedSlots_of_none rfl]
    exact fun slot => (hmem slot).mpr
  · rw [namedSlots_of_none rfl]
    exact fun slot => (hmem slot).mp
  · rw [LaneState.not_clearing (LaneState.inService_of_running hrun)] at hclearing
    exact hclearing

/-- A lane that names and holds nothing, in a state without a show (R141, R142, R150). -/
theorem LaneLawful.empty {l : Lane} {r : Release} (h : GrantsLawful l r) {l' : Lane} (hshow : ShowLawful l')
    (hrun : l'.state.running = false) (hst : l'.state ≠ .clearing) {mark : Bool}
    (hmark : l'.state.inService = true → mark = false) {clearing : Option Nat} (hclearing : clearing = none) :
    LaneLawful l' { r with outstanding := [], holdings := [], clearRequired := mark, clearing := clearing } := by
  obtain ⟨-, -, -, hserial, -⟩ := h
  have hnone : l'.active = none := by
    have hactive := hshow.1
    rw [hrun] at hactive
    simpa using hactive
  refine ⟨hshow, ⟨Nat.zero_le _, ?_, ?_, hserial, ?_, .nil, Nat.zero_le _⟩, fun hin => ⟨nofun, hmark hin⟩,
    fun _ hno => absurd rfl hno, ?_⟩
  · rw [namedSerials_of_none hnone]; exact .nil
  · rw [namedSerials_of_none hnone]; exact nofun
  · rw [namedSlots_of_none hnone]; exact nofun
  · rw [hclearing]
    simpa using hst

end Sys2Proof.Machine
end

section
/-! PROOFS. The law of every lane and its port under the operations that the blocks share (R73 to R76, R102 to R104, R130, R133,
R134, R149, R157). -/

namespace Sys2Proof.Machine

/-! ## Lanes that nothing touches -/

/-- Lanes, their items and the bindings of their ports stay. -/
structure SameLanes (s t : State) : Prop where
  lane : ∀ n, t.lane n = s.lane n
  rel : ∀ n, t.rel n = s.rel n
  bound : ∀ n, (t.port n).boundScreen = (s.port n).boundScreen

theorem SameLanes.lawful {s t : State} (h : SameLanes s t) (hs : s.lanesLawful) : t.lanesLawful := by
  intro n
  obtain ⟨hlaw, hport⟩ := hs n
  rw [h.lane n, h.rel n]
  refine ⟨hlaw, fun hserves => ?_⟩
  rw [h.bound n]
  exact hport hserves

theorem SameLanes.of_eq {s t : State} (hlanes : t.lanes = s.lanes) (hreleases : t.releases = s.releases)
    (hports : t.ports = s.ports) : SameLanes s t :=
  ⟨fun n => by rw [State.lane, hlanes]; rfl, fun n => by rw [State.rel, hreleases]; rfl,
    fun n => by rw [State.port, hports]; rfl⟩

theorem boundScreen_of_sends {s t : State} (h : Sends s t) {n : LaneIx} (hst : (t.port n).state = (s.port n).state) :
    (t.port n).boundScreen = (s.port n).boundScreen := by
  rw [ScreenPort.boundScreen, ScreenPort.boundScreen, hst, h.entry]

theorem Quiet.sameLanes {s t : State} (h : Quiet s t) : SameLanes s t :=
  ⟨h.lane, h.rel, fun n => boundScreen_of_sends h.toSends (h.portState n)⟩

theorem setLink_sameLanes (s : State) (p : PortId) (l : Link) : SameLanes s (s.setLink p l) :=
  ⟨fun n => lane_setLink s p l n, fun n => rel_setLink s p l n, fun n => by
    obtain ⟨hentry, hstate, -⟩ := port_setLink_items s p l n
    rw [ScreenPort.boundScreen, ScreenPort.boundScreen, hentry, hstate]⟩

theorem setPort_sameLanes (s : State) (n : LaneIx) {p : ScreenPort} (h : p.boundScreen = (s.port n).boundScreen := by rfl) :
    SameLanes s (s.setPort n p) := by
  refine ⟨fun _ => rfl, fun _ => rfl, fun m => ?_⟩
  by_cases hm : m = n
  · subst hm; rw [port_setPort_same, h]
  · rw [port_setPort_other _ _ hm]

theorem raise_lanesLawful {s : State} (e : Event) (hs : s.lanesLawful) : (s.raise e).lanesLawful := (raise_quiet s e).sameLanes.lawful hs

theorem notify_lanesLawful {s : State} (n : LaneIx) (x : Notice) (hs : s.lanesLawful) : (s.notify n x).lanesLawful :=
  (notify_quiet s n x).sameLanes.lawful hs

theorem portTick_boundScreen (n m : LaneIx) (s : State) : ((portTick n s).port m).boundScreen = (s.port m).boundScreen := by
  have hspaced (st : PortState) : st.spaced.isBound = st.isBound := by cases st <;> rfl
  by_cases hf : s.isFitted n = true
  · have hticked : SameLanes s (portTick n s) := by
      have hset (d : Bool) : SameLanes s (s.setPort n { (s.port n).ticked (s.lane n).dt with degraded := d }) :=
        setPort_sameLanes s n (by simp only [ScreenPort.boundScreen, ScreenPort.ticked, hspaced])
      rw [portTick_of_fitted hf]
      dsimp only
      split
      · exact ⟨fun k => by rw [lane_raise]; rfl, fun k => by rw [rel_raise]; rfl, fun k => by rw [port_raise]; exact (hset _).bound k⟩
      · split
        · exact ⟨fun k => by rw [lane_raise]; rfl, fun k => by rw [rel_raise]; rfl,
            fun k => by rw [port_raise]; exact (hset _).bound k⟩
        · exact hset _
    exact hticked.bound m
  · rw [portTick, if_neg hf]

theorem portTick_sameLanes (n : LaneIx) (s : State) : SameLanes s (portTick n s) := by
  obtain ⟨p, hp⟩ := portTick_quiet n s
  exact ⟨fun m => hp.lane m, fun m => hp.rel m, fun m => portTick_boundScreen n m s⟩

/-! ## Work on one lane -/

/-- A lane of which its port must be bound in the SCREEN role (R74, R150). -/
def LaneState.serves (st : LaneState) : Prop := st.inService = true ∨ st = .clearing

theorem LaneState.serves_of_running {st : LaneState} (h : st.running = true) : st.serves :=
  .inl (LaneState.inService_of_running h)

/-- Work on lane n alone keeps every lane's law where it keeps lane n's. -/
theorem lanesLawful_of_local {n : LaneIx} {s t : State} (h : Local n s t) (hs : s.lanesLawful)
    (hlaw : LaneLawful (t.lane n) (t.rel n)) (hport : PortLawful (t.lane n) (t.port n)) : t.lanesLawful := by
  intro m
  by_cases hm : m = n
  · subst hm; exact ⟨hlaw, hport⟩
  · rw [h.lane m hm, h.rel m hm, h.port m hm]; exact hs m

/-- Work on lane n that only sends, and leaves its port's binding alone. -/
theorem lanesLawful_of_work {n : LaneIx} {s t : State} (h : Local n s t) (hsends : Sends s t)
    (hstate : (t.port n).state = (s.port n).state) (hs : s.lanesLawful) (hlaw : LaneLawful (t.lane n) (t.rel n))
    (hserves : (t.lane n).state.serves → (s.lane n).state.serves) : t.lanesLawful :=
  lanesLawful_of_local h hs hlaw fun ht => by
    rw [boundScreen_of_sends hsends hstate]
    exact (hs n).2 (hserves ht)

/-- A lane written. -/
theorem setLane_lanesLawful {n : LaneIx} {l : Lane} {s : State} (hs : s.lanesLawful) (hlaw : LaneLawful l (s.rel n))
    (hserves : l.state.serves → (s.lane n).state.serves) : (s.setLane n l).lanesLawful := by
  refine lanesLawful_of_local (setLane_local s n l) hs (by rwa [lane_setLane_same]) ?_
  rw [lane_setLane_same]
  exact fun hl => (hs n).2 (hserves hl)

theorem setRel_lanesLawful {n : LaneIx} {r : Release} {s : State} (hs : s.lanesLawful) (hlaw : LaneLawful (s.lane n) r) :
    (s.setRel n r).lanesLawful :=
  lanesLawful_of_local (setRel_local s n r) hs (by rwa [rel_setRel_same]) (hs n).2

/-! ## Ends of shows -/

theorem quarantine_lanesLawful {n : LaneIx} (cause : QuarantineCause) {s : State} (hs : s.lanesLawful) :
    (quarantine n cause s).lanesLawful := by
  by_cases hq : (s.lane n).state = .quarantine
  · rw [quarantine_same hq]; exact hs
  · obtain ⟨⟨-, hgrants, -⟩, -⟩ := hs n
    have hlane := lane_quarantine cause hq
    refine lanesLawful_of_work (quarantine_local n cause s) (quarantine_sends n cause s) (portState_quarantine n n cause s) hs ?_ ?_
    · rw [hlane, rel_quarantine cause hq]; exact .quarantined hgrants
    · rw [hlane]; exact fun h => h.elim nofun nofun

/-- What may go out between a WITHDRAW and its SHOW ENDED: a notice to the same port, or nothing (R79). -/
structure Between (n : LaneIx) (f : State → State) : Prop extends Spares n f where
  local' : ∀ s, Local n s (f s)
  sends : ∀ s, Sends s (f s)
  state : ∀ s, ((f s).port n).state = (s.port n).state

theorem Between.id (n : LaneIx) : Between n id := ⟨Spares.id n, Local.refl n, Sends.refl, fun _ => rfl⟩

theorem endShowWith_state {n : LaneIx} (reason : ShowReason) {f : State → State} (hf : Between n f) (s : State) :
    ((endShowWith n reason f s).port n).state = (s.port n).state := by
  unfold endShowWith
  split
  · rfl
  · split
    · rw [portState_quarantine, hf.state]
    · rw [portState_reportShowEnd, dropShow_eq, port_setLane, hf.state, portState_withdraw]

/-- The law of the lane whose show has ended: IDLE with its grant withdrawn, or QUARANTINE. -/
theorem endShowWith_law {n : LaneIx} (reason : ShowReason) {f : State → State} (hf : Between n f) {s : State}
    (hgrants : GrantsLawful (s.lane n) (s.rel n)) (hholdings : HoldingsLawful (s.lane n) (s.rel n))
    (hrun : (s.lane n).state.running = true) (hactive : (s.lane n).active.isSome = true) :
    LaneLawful ((endShowWith n reason f s).lane n) ((endShowWith n reason f s).rel n) := by
  have hst : (s.lane n).state ≠ .quarantine := by intro h; rw [h] at hrun; exact absurd hrun (by decide)
  obtain ⟨a, ha⟩ := Option.isSome_iff_exists.mp hactive
  rw [lane_endShowWith hf.toSpares hactive hst, State.endedState]
  split
  · next hplace =>
    rw [rel_endShowWith_of_place hf.toSpares ha hplace]
    exact .withdrawn hgrants hholdings hrun ha hplace _
  · next hfull =>
    rw [rel_endShowWith_of_full hf.toSpares hactive hst (Nat.not_lt.mp hfull)]
    exact .quarantined hgrants

theorem endShowWith_lanesLawful {n : LaneIx} (reason : ShowReason) {f : State → State} (hf : Between n f) {s : State}
    (hs : s.lanesLawful) : (endShowWith n reason f s).lanesLawful := by
  obtain ⟨⟨⟨hactive, -⟩, hgrants, hholdings⟩, -⟩ := hs n
  cases ha : (s.lane n).active with
  | none => rw [endShowWith_none ha]; exact hs
  | some a =>
    have hrun : (s.lane n).state.running = true := by rw [← hactive, ha]; rfl
    exact lanesLawful_of_work (endShowWith_local n reason f hf.local' s) (endShowWith_sends n reason f hf.sends s)
      (endShowWith_state reason hf s) hs (endShowWith_law reason hf hgrants hholdings hrun (by rw [ha]; rfl))
      fun _ => LaneState.serves_of_running hrun

theorem endShow_lanesLawful {n : LaneIx} (reason : ShowReason) {s : State} (hs : s.lanesLawful) : (endShow n reason s).lanesLawful :=
  endShowWith_lanesLawful reason (.id n) hs

/-- The end of a show on a state that differs from a lawful one in lane n's holds alone (R93, R97). -/
theorem setLane_endShow_lanesLawful {n : LaneIx} (reason : ShowReason) {l : Lane} {s : State} (hs : s.lanesLawful)
    (hparams : LaneKeeps (s.lane n) l) (hrun : (s.lane n).state.running = true) (hgrants : GrantsLawful l (s.rel n))
    (hholdings : HoldingsLawful l (s.rel n)) (hrun' : l.state.running = true) (hactive : l.active.isSome = true) :
    (endShow n reason (s.setLane n l)).lanesLawful := by
  refine lanesLawful_of_work ((setLane_local s n l).trans (endShow_local n reason _))
    ((setLane_sends s n l hparams).trans (endShow_sends n reason _)) ?_ hs ?_ fun _ => LaneState.serves_of_running hrun
  · rw [portState_endShow]; rfl
  · exact endShowWith_law reason (.id n) (by rwa [lane_setLane_same]) (by rwa [lane_setLane_same]) (by rwa [lane_setLane_same])
      (by rwa [lane_setLane_same])

/-! ## Time -/

theorem countDownLane_lanesLawful (n : LaneIx) {s : State} (hs : s.lanesLawful) : (countDownLane n s).lanesLawful := by
  obtain ⟨hlaw, -⟩ := hs n
  unfold countDownLane
  split
  · exact setRel_lanesLawful hs (hlaw.counting (fun e => countDown e.countdown) rfl)
  · split
    · have hcount := hlaw.counting (fun e => e.countdown) (clearing := countDown (s.rel n).clearing) (by simp [countDown])
      simp only [List.map_id'] at hcount
      exact setRel_lanesLawful hs hcount
    · exact hs

theorem timeOutWithdrawals_lanesLawful (n : LaneIx) {s : State} (hs : s.lanesLawful) : (timeOutWithdrawals n s).lanesLawful := by
  unfold timeOutWithdrawals
  dsimp only
  split
  · exact quarantine_lanesLawful _ (setLane_lanesLawful hs (hs n).1 id)
  · exact hs

theorem timeOutClearing_lanesLawful (n : LaneIx) {s : State} (hs : s.lanesLawful) : (timeOutClearing n s).lanesLawful := by
  unfold timeOutClearing
  split
  · exact quarantine_lanesLawful _ hs
  · exact hs

theorem recheckAt_lanesLawful (n : LaneIx) {s : State} (hs : s.lanesLawful) : (recheckAt n s).lanesLawful := by
  unfold recheckAt
  split
  · split
    · exact hs
    · exact endShow_lanesLawful _ hs
  · exact hs

/-- An operation on each lane that keeps every lane's law. -/
theorem forLanes_lanesLawful {f : LaneIx → State → State} (h : ∀ n s, s.lanesLawful → (f n s).lanesLawful) {s : State}
    (hs : s.lanesLawful) : (s.forLanes f).lanesLawful :=
  forLanes_keep (R := fun s t => s.lanesLawful → t.lanesLawful) (fun _ => id) (fun h k => k ∘ h) h s hs

theorem expireAt_lanesLawful (slot : Nat) (n : LaneIx) {s : State} (hs : s.lanesLawful) : (expireAt slot n s).lanesLawful := by
  unfold expireAt
  split
  · exact endShow_lanesLawful _ hs
  · exact hs

theorem setKey_lanesLawful (slot : Nat) (k : Key) {s : State} (hs : s.lanesLawful) : (s.setKey slot k).lanesLawful :=
  (SameLanes.of_eq rfl rfl rfl).lawful hs

theorem evaluateSlot_lanesLawful (slot : Nat) {s : State} (hs : s.lanesLawful) : (evaluateSlot slot s).lanesLawful := by
  unfold evaluateSlot
  split
  · exact hs
  · next k _ =>
    have hmoved := raise_lanesLawful (.keyState slot (some k.state) (some (k.judged s.clock.now s.clock.u)) .window)
      (setKey_lanesLawful slot (k.moved (k.judged s.clock.now s.clock.u) s.clock.now) hs)
    dsimp only
    split
    · exact hs
    · split
      · exact forLanes_lanesLawful (fun n _ h => expireAt_lanesLawful slot n h) hmoved
      · exact hmoved

/-! ## Boundaries (R85 to R88) -/

theorem completeShow_lanesLawful (n : LaneIx) {s : State} (hs : s.lanesLawful) : (completeShow n s).lanesLawful := by
  have hended := endShow_lanesLawful (n := n) .complete hs
  unfold completeShow
  dsimp only
  split
  · exact setLane_lanesLawful hended (hended n).1 id
  · exact hended

theorem continuationBoundary_lanesLawful {n : LaneIx} {a : ActiveReel} (p : PendingReel) {s : State} (hs : s.lanesLawful)
    (ha : (s.lane n).active = some a) : (continuationBoundary n a p s).lanesLawful := by
  unfold continuationBoundary
  split
  · exact endShow_lanesLawful _ hs
  · obtain ⟨⟨⟨hactive, -, hshow⟩, hgrants, hholdings⟩, -⟩ := hs n
    have hrun : (s.lane n).state.running = true := by rw [← hactive, ha]; rfl
    refine notify_lanesLawful n _ (setLane_lanesLawful hs (.runsOn hgrants hholdings hrun hrun ⟨?_, nofun, hshow⟩ ?_ ?_) id)
    · exact hrun.symm
    · rw [ha]; rfl
    · rw [ha]; rfl

theorem noteCheck_lanesLawful (n : LaneIx) (slot : Nat) (report : CheckReport) {s : State} (hs : s.lanesLawful) :
    (noteCheck n slot report s).lanesLawful := by
  unfold noteCheck noteOversubscribed
  split
  · split
    · exact hs
    · exact raise_lanesLawful _ (setLane_lanesLawful (setKey_lanesLawful _ _ hs) (hs n).1 id)
  · exact hs

theorem changeGrant_lanesLawful {n : LaneIx} {a : ActiveReel} (p : PendingReel) {s : State} (hs : s.lanesLawful)
    (ha : (s.lane n).active = some a) (hplace : (s.rel n).outstanding.length < 4) : (changeGrant n a p s).lanesLawful := by
  obtain ⟨⟨⟨hactive, -, hshow⟩, hgrants, hholdings⟩, -⟩ := hs n
  have hrun : (s.lane n).state.running = true := by rw [← hactive, ha]; rfl
  have hidle := LaneLawful.withdrawn hgrants hholdings hrun ha hplace (s.lane n).wt
  obtain ⟨-, hgrants', hholdings'⟩ := hidle
  refine lanesLawful_of_work ?_ (changeGrant_sends n a p s) ?_ hs ?_ fun _ => LaneState.serves_of_running hrun
  · unfold changeGrant
    exact (((withdraw_local n a s).trans (issueGrant_local n _ _ _ _)).trans (setLane_local _ n _)).trans (notify_local n _ _)
  · rw [changeGrant_eq]
    dsimp only
    rw [portState_notify, port_setLane, portState_issueGrant, portState_withdraw]
  · have hrel : (changeGrant n a p s).rel n = ((s.rel n).withdrawing a (s.lane n).wt).granting p.slot := by
      rw [changeGrant_eq]
      dsimp only
      rw [rel_notify, rel_setLane, rel_issueGrant, rel_withdraw]
    rw [hrel, changeGrant_eq]
    dsimp only
    rw [lane_notify, lane_setLane_same]
    exact LaneLawful.granted (a := ⟨p.slot, p.label, p.tag, p.d, _⟩) hgrants' hholdings' rfl rfl rfl rfl
      ⟨hrun.symm, nofun, hshow⟩ hrun

theorem newGrantBoundary_lanesLawful {n : LaneIx} {a : ActiveReel} (p : PendingReel) {s : State} (hs : s.lanesLawful)
    (ha : (s.lane n).active = some a) : (newGrantBoundary n a p s).lanesLawful := by
  unfold newGrantBoundary
  dsimp only
  split
  · exact endShow_lanesLawful _ (noteCheck_lanesLawful n _ _ hs)
  · next hpass =>
    rw [noteCheck_of_pass s hpass]
    split
    · exact quarantine_lanesLawful _ hs
    · next hplace => exact changeGrant_lanesLawful p hs ha (not_not.mp (mt (Release.listFull_iff _).mpr hplace))

theorem reachBoundary_lanesLawful {n : LaneIx} {a : ActiveReel} {s : State} (hs : s.lanesLawful) (ha : (s.lane n).active = some a) :
    (reachBoundary n a s).lanesLawful := by
  unfold reachBoundary
  split
  · exact completeShow_lanesLawful n hs
  · split
    · exact continuationBoundary_lanesLawful _ hs ha
    · exact newGrantBoundary_lanesLawful _ hs ha

theorem laneTick_lanesLawful (n : LaneIx) {s : State} (hs : s.lanesLawful) : (laneTick n s).lanesLawful := by
  obtain ⟨⟨⟨hactive, hpending, hshow⟩, hgrants, hholdings⟩, -⟩ := id hs n
  unfold laneTick
  dsimp only
  split
  · next _ _ a hst ha =>
    have hrun : (s.lane n).state.running = true := by rw [hst]; rfl
    have hcounted : (s.setLane n { s.lane n with tickOwed := false, active := some { a with r := a.r - 1 } }).lanesLawful := by
      refine setLane_lanesLawful hs (.runsOn hgrants hholdings hrun hrun ⟨hrun.symm, hpending, hshow⟩ ?_ ?_) id
      · rw [ha]; rfl
      · rw [ha]; rfl
    split
    · exact reachBoundary_lanesLawful hcounted (by rw [lane_setLane_same])
    · exact hcounted
  · next a timer limit hst ha htimer hlimit =>
    have hcounted : (s.setLane n { s.lane n with tickOwed := false, holdTimer := some (timer + 1) }).lanesLawful := by
      obtain ⟨hflags, htimer', hlimit'⟩ := hshow
      refine setLane_lanesLawful hs ⟨⟨hactive, hpending, hflags, ?_, hlimit'⟩, hgrants, hholdings⟩ id
      rw [← htimer', htimer]
      rfl
    split
    · exact endShow_lanesLawful _ hcounted
    · exact hcounted
  · exact setLane_lanesLawful hs (hs n).1 id

end Sys2Proof.Machine
end

section
/-! PROOFS. The law of every lane and its port under every command and every step (O6). -/

namespace Sys2Proof.Machine

/-! ## Grants asked for -/

theorem lane_running_of_held {st : LaneState} (h : st = .held) : st.running = true := by rw [h]; rfl

theorem lane_running_of_playing {st : LaneState} (h : st = .playing) : st.running = true := by rw [h]; rfl

theorem newStart_lanesLawful {n : LaneIx} (slot : Nat) (label : Label) (d : Nat) (tag : ReelTag) {s : State} (hs : s.lanesLawful)
    (hidle : (s.lane n).state = .idle) : (newStart n slot label d tag s).1.lanesLawful := by
  obtain ⟨⟨⟨hactive, hpending, hholds, htimer, hlimit⟩, hgrants, hholdings⟩, -⟩ := id hs n
  rw [hidle] at hactive hpending hholds htimer hlimit
  have hnone : (s.lane n).active = none := Option.not_isSome_iff_eq_none.mp (by rw [hactive]; decide)
  have hserves : (s.lane n).state.serves := .inl (by rw [hidle]; rfl)
  unfold newStart
  dsimp only
  split
  · exact noteCheck_lanesLawful n _ _ hs
  · have hlocal := issueGrant_local n slot tag d s
    have hsends := issueGrant_sends n slot tag d s
    have hlane := lane_issueGrant n n slot tag d s
    have hrel := rel_issueGrant n slot tag d s
    have hstate := portState_issueGrant n n slot tag d s
    rw [issueGrant_serial]
    generalize (issueGrant n slot tag d s).1 = t at hlocal hsends hlane hrel hstate
    -- whichever law of shows the caller meets, the new grant is lawful
    have hgranted {l : Lane} (ha : l.active = some ⟨slot, label, tag, d, (s.rel n).takenSerial⟩) (hshow : ShowLawful l)
        (hrun : l.state.running = true) : LaneLawful l (t.rel n) := by
      rw [hrel]
      exact .granted hgrants hholdings hnone (by rw [hidle]; rfl) ha rfl hshow hrun
    split
    · unfold enterHeld
      dsimp only
      rw [setLane_setLane, lane_setLane_same]
      have hheld : ShowLawful { t.lane n with
          state := .held, active := some ⟨slot, label, tag, d, (s.rel n).takenSerial⟩, screenHold := false, siteHold := true
          holdTimer := some 0, holdLimit := some (t.lane n).l } := ⟨rfl, fun _ => rfl, rfl, rfl, rfl⟩
      split
      · obtain ⟨-, hgrants', hholdings'⟩ := hgranted rfl hheld rfl
        refine lanesLawful_of_work ((hlocal.trans (setLane_local t n _)).trans (endShow_local n _ _))
          ((hsends.trans (setLane_sends t n _)).trans (endShow_sends n _ _)) ?_ hs ?_ fun _ => hserves
        · rw [portState_endShow]; exact hstate
        · exact endShowWith_law _ (.id n) (by rwa [lane_setLane_same]) (by rwa [lane_setLane_same]) (by rw [lane_setLane_same]; rfl)
            (by rw [lane_setLane_same]; rfl)
      · refine lanesLawful_of_work (hlocal.trans (setLane_local t n _)) (hsends.trans (setLane_sends t n _)) hstate hs ?_
          fun _ => hserves
        rw [lane_setLane_same, rel_setLane]
        exact hgranted rfl hheld rfl
    · refine lanesLawful_of_work (hlocal.trans (setLane_local t n _)) (hsends.trans (setLane_sends t n _)) hstate hs ?_
        fun _ => hserves
      rw [lane_setLane_same, rel_setLane]
      refine hgranted rfl ⟨rfl, fun _ => rfl, ?_, ?_, ?_⟩ rfl
      · rw [hlane]; exact hholds
      · rw [hlane]; exact htimer
      · rw [hlane]; exact hlimit

theorem storePending_lanesLawful {n : LaneIx} (p : PendingReel) {s : State} (hs : s.lanesLawful)
    (hrun : (s.lane n).state.running = true) : (storePending n p s).1.lanesLawful := by
  obtain ⟨⟨⟨hactive, -, hshow⟩, hgrants, hholdings⟩, -⟩ := id hs n
  have hstored : (s.setLane n { s.lane n with pending := some p }).lanesLawful :=
    setLane_lanesLawful hs ⟨⟨hactive, fun _ => hrun, hshow⟩, hgrants, hholdings⟩ id
  unfold storePending
  split
  · exact hs
  · dsimp only
    split <;> exact hstored

theorem queueReel_lanesLawful (n : LaneIx) (slot : Nat) (label : Label) (d : Nat) (tie : Bool) (tag : ReelTag) {s : State}
    (hs : s.lanesLawful) : (queueReel n slot label d tie tag s).1.lanesLawful := by
  unfold queueReel
  split
  · exact hs
  · split
    · exact hs
    · split
      · next hidle => exact newStart_lanesLawful slot label d tag hs hidle
      · next hst => exact storePending_lanesLawful _ hs (lane_running_of_playing hst)
      · next hst => exact storePending_lanesLawful _ hs (lane_running_of_held hst)
      all_goals exact hs

/-! ## Holds -/

theorem enterHeld_lanesLawful {n : LaneIx} {screen site : Bool} {s : State} (hs : s.lanesLawful)
    (hst : (s.lane n).state = .playing) (hflag : (screen || site) = true) : (enterHeld n screen site s).lanesLawful := by
  obtain ⟨⟨⟨hactive, -⟩, hgrants, hholdings⟩, -⟩ := id hs n
  have hrun := lane_running_of_playing hst
  rw [hrun] at hactive
  obtain ⟨hshow, hgrants', hholdings'⟩ := LaneLawful.runsOn (l' := { s.lane n with
      state := .held, screenHold := screen, siteHold := site, holdTimer := some 0, holdLimit := some (s.lane n).l })
    hgrants hholdings hrun rfl ⟨hactive, fun _ => rfl, hflag, rfl, rfl⟩
  unfold enterHeld
  dsimp only
  split
  · exact setLane_endShow_lanesLawful _ hs ⟨rfl, rfl, rfl⟩ hrun hgrants' hholdings' rfl hactive
  · exact setLane_lanesLawful hs ⟨hshow, hgrants', hholdings'⟩ fun _ => LaneState.serves_of_running hrun

/-- A HELD lane whose last flag has cleared: its re-check resumes the show or ends it (R93). -/
theorem releaseLastHold_lanesLawful {n : LaneIx} {l : Lane} {s : State} (hs : s.lanesLawful) (hst : (s.lane n).state = .held)
    (hl : l = { s.lane n with screenHold := false, siteHold := false }) :
    (releaseLastHold n (s.setLane n l)).lanesLawful := by
  obtain ⟨⟨⟨hactive, hpending, -⟩, hgrants, hholdings⟩, -⟩ := id hs n
  have hrun := lane_running_of_held hst
  rw [hrun] at hactive
  obtain ⟨a, ha⟩ := Option.isSome_iff_exists.mp hactive
  subst hl
  unfold releaseLastHold
  rw [lane_setLane_same, ha]
  dsimp only
  split
  · rw [setLane_setLane]
    exact setLane_lanesLawful hs (.runsOn hgrants hholdings hrun rfl ⟨hactive, fun _ => rfl, rfl, rfl, rfl⟩ (by rw [ha]) (by rw [ha]))
      fun _ => LaneState.serves_of_running hrun
  · exact setLane_endShow_lanesLawful _ hs ⟨rfl, rfl, rfl⟩ hrun hgrants hholdings hrun (by rw [ha]; rfl)

theorem holdShow_lanesLawful (n : LaneIx) {s : State} (hs : s.lanesLawful) : (holdShow n s).1.lanesLawful := by
  unfold holdShow
  split
  · next hst => exact enterHeld_lanesLawful hs hst rfl
  · next hst =>
    obtain ⟨⟨⟨hactive, hpending, -, htimes⟩, hgrants, hholdings⟩, -⟩ := id hs n
    refine setLane_lanesLawful hs ⟨⟨hactive, hpending, ?_, htimes⟩, hgrants, hholdings⟩ id
    rw [hst]
    rfl
  all_goals exact hs

theorem resumeShow_lanesLawful (n : LaneIx) {s : State} (hs : s.lanesLawful) : (resumeShow n s).1.lanesLawful := by
  obtain ⟨⟨⟨hactive, hpending, hflags, htimes⟩, hgrants, hholdings⟩, -⟩ := id hs n
  unfold resumeShow
  split
  · next h =>
    dsimp only
    split
    · next hsite _ => exact releaseLastHold_lanesLawful hs h.1 (by rw [← hsite])
    · next hnot =>
      have hsite : (s.lane n).siteHold = true := by
        by_contra hno
        rw [h.1] at hactive
        obtain ⟨a, ha⟩ := Option.isSome_iff_exists.mp hactive
        exact hnot a (by simpa using hno) ha
      refine setLane_lanesLawful hs ⟨⟨hactive, hpending, ?_, htimes⟩, hgrants, hholdings⟩ id
      rw [hsite, h.1]
      rfl
  · exact hs

theorem assertAt_lanesLawful (n : LaneIx) {s : State} (hs : s.lanesLawful) : (assertAt n s).lanesLawful := by
  unfold assertAt
  split
  · next hst => exact enterHeld_lanesLawful hs hst rfl
  · next hst =>
    obtain ⟨⟨⟨hactive, hpending, -, htimes⟩, hgrants, hholdings⟩, -⟩ := id hs n
    refine setLane_lanesLawful hs ⟨⟨hactive, hpending, ?_, htimes⟩, hgrants, hholdings⟩ id
    simp [hst]
  all_goals exact hs

theorem releaseAt_lanesLawful (n : LaneIx) {s : State} (hs : s.lanesLawful) : (releaseAt n s).lanesLawful := by
  unfold releaseAt
  dsimp only
  split
  · next h =>
    obtain ⟨hst, -, hscreen⟩ := h
    exact releaseLastHold_lanesLawful hs hst (by rw [← hscreen])
  · next hnot =>
    obtain ⟨⟨⟨hactive, hpending, hflags, htimes⟩, hgrants, hholdings⟩, -⟩ := id hs n
    refine setLane_lanesLawful hs ⟨⟨hactive, hpending, ?_, htimes⟩, hgrants, hholdings⟩ id
    rw [← hflags]
    by_cases hst : (s.lane n).state = .held
    · cases hscreen : (s.lane n).screenHold <;> cases hsite : (s.lane n).siteHold <;> simp_all
    · have hno : ((s.lane n).screenHold || (s.lane n).siteHold) = false := by rw [hflags]; simpa using hst
      obtain ⟨hscreen, hsite⟩ := Bool.or_eq_false_iff.mp hno
      rw [hscreen, hsite]

/-! ## Confirmations -/

theorem erasedAt_lanesLawful (n : LaneIx) (serial : Nat) {s : State} (hs : s.lanesLawful) : (erasedAt n serial s).1.lanesLawful := by
  obtain ⟨hlaw, -⟩ := hs n
  unfold erasedAt
  split
  · exact hs
  · split
    · next e he => exact setRel_lanesLawful hs (hlaw.erasedEntry (List.mem_of_find?_eq_some he))
    · split
      · next a ha =>
        unfold Lane.activeUnder at ha
        split at ha
        · next hrun =>
          have hactive : (s.lane n).active = some a := (Option.filter_eq_some_iff.mp ha).1
          have hlane := lane_screenErased_of_running hrun
          refine lanesLawful_of_work ((screenErased_local n s).trans (setRel_local _ n _))
            ((screenErased_sends n s).trans (setRel_sends _ n _)) ?_ hs ?_ fun _ => LaneState.serves_of_running hrun
          · change ((screenErased n s).port n).state = _
            rw [screenErased_eq_of_running hrun, portState_reportShowEnd, port_setLane]
          · simp only [eraseActive, rel_setRel_same, lane_setRel, hlane, rel_screenErased]
            exact hlaw.erasedActive hrun hactive
        · exact absurd ha nofun
      · exact hs

theorem eraseEverything_lanesLawful {n : LaneIx} {s : State} (hs : s.lanesLawful) (hin : (s.lane n).state.inService = true) :
    (eraseEverything n s).lanesLawful := by
  obtain ⟨⟨hshow, hgrants, hservice, -, hclearing⟩, -⟩ := id hs n
  have hnone : (s.rel n).clearing = none := by
    rw [LaneState.not_clearing hin] at hclearing
    simpa using hclearing
  have hmark := (hservice hin).2
  have hempty {l : Lane} (hl : ShowLawful l) (hidle : l.state = .idle) :
      LaneLawful l { s.rel n with outstanding := [], holdings := [] } :=
    .empty hgrants hl (by rw [hidle]; rfl) (by rw [hidle]; decide) (fun _ => hmark) hnone
  refine lanesLawful_of_work ((screenErased_local n s).trans (setRel_local _ n _))
    ((screenErased_sends n s).trans (setRel_sends _ n _)) ?_ hs ?_ fun _ => .inl hin
  · change ((screenErased n s).port n).state = _
    unfold screenErased
    split
    · rw [portState_reportShowEnd, dropShow_eq, port_setLane]
    · rfl
  · simp only [eraseEverything, rel_setRel_same, lane_setRel, rel_screenErased]
    by_cases hrun : (s.lane n).state.running = true
    · rw [lane_screenErased_of_running hrun]
      exact hempty (.endedIn _ rfl) rfl
    · rw [screenErased, if_neg hrun]
      refine hempty hshow ?_
      cases hst : (s.lane n).state <;> simp_all [LaneState.inService, LaneState.running]

theorem erasedAllAt_lanesLawful (n : LaneIx) {s : State} (hs : s.lanesLawful) : (erasedAllAt n s).1.lanesLawful := by
  unfold erasedAllAt
  dsimp only
  split
  · next hst =>
    obtain ⟨⟨⟨hactive, hpending, hflags, htimes⟩, hgrants, -⟩, -⟩ := id hs n
    rw [hst] at hactive hpending hflags htimes
    refine raise_lanesLawful _ (lanesLawful_of_work ((setRel_local s n _).trans (setLane_local _ n _))
      ((setRel_sends s n _).trans (setLane_sends _ n _)) rfl hs ?_ fun _ => .inr hst)
    rw [lane_setLane_same, rel_setLane, rel_setRel_same]
    exact .empty hgrants ⟨hactive, hpending, hflags, htimes⟩ rfl
      (show LaneState.idle ≠ .clearing by decide) (fun _ => rfl) rfl
  · next hst => exact eraseEverything_lanesLawful hs (by rw [hst]; rfl)
  · next hst => exact eraseEverything_lanesLawful hs (by rw [hst]; rfl)
  · next hst => exact eraseEverything_lanesLawful hs (by rw [hst]; rfl)
  · exact hs
  · exact hs

/-! ## Revocation -/

/-- What a revocation frees at a lane goes out as one notice, or none, between a WITHDRAW and its SHOW ENDED (R63, R79). -/
theorem bufferFreed_between (n : LaneIx) (hit : Option PendingReel) : Between n (fun s => match hit with
    | none => s
    | some p => s.notify n (.bufferFree .revoked p.tag none)) := by
  cases hit with
  | none => exact .id n
  | some p => exact ⟨⟨fun s => lane_notify s n _ n, fun s => rel_notify s n _ n⟩, fun s => notify_local n s _, fun s => notify_sends s n _,
      fun s => portState_notify s n n _⟩

theorem revokeAt_lanesLawful (slot : Nat) (n : LaneIx) {s : State} (hs : s.lanesLawful) : (revokeAt slot n s).lanesLawful := by
  obtain ⟨⟨⟨hactive, -, hshow⟩, hgrants, hholdings⟩, -⟩ := id hs n
  have hdiscard (b : Bool) : (if b = true then s.setLane n { s.lane n with pending := none } else s).lanesLawful := by
    split
    · exact setLane_lanesLawful hs ⟨⟨hactive, nofun, hshow⟩, hgrants, hholdings⟩ id
    · exact hs
  unfold revokeAt
  dsimp only
  split
  · split
    · exact endShowWith_lanesLawful _ (bufferFreed_between n _) (hdiscard _)
    · split
      · exact hdiscard _
      · exact notify_lanesLawful n _ (hdiscard _)
  · exact hs

theorem revokeKey_lanesLawful (slot : Nat) (kind : Byte) {s : State} (hs : s.lanesLawful) :
    (revokeKey slot kind s).1.lanesLawful := by
  unfold revokeKey
  split
  · exact hs
  · split
    · exact hs
    · split
      · exact hs
      · have hrevoked (k : Key) (e : Event) : ((s.setKey slot k).raise e).lanesLawful :=
          raise_lanesLawful e (setKey_lanesLawful slot k hs)
        dsimp only
        exact forLanes_lanesLawful (fun n _ h => revokeAt_lanesLawful slot n h) (hrevoked _ _)

end Sys2Proof.Machine
end

section
/-! PROOFS. Lanes under bindings, supplies and the remaining commands; the law of every lane and its port under every step (O6). -/

namespace Sys2Proof.Machine

/-! ## Bindings (R102 to R104, R151, R167 to R169) -/

/-- A lane that runs no show moves to another state without one. -/
theorem ShowLawful.restate {l : Lane} (h : ShowLawful l) (hrun : l.state.running = false) {st : LaneState}
    (hst : st.running = false) : ShowLawful { l with state := st } := by
  have hheld {st : LaneState} (h : st.running = false) : (st == .held) = false := by
    revert h
    cases st <;> decide
  obtain ⟨hactive, hpending, hflags, htimer, hlimit⟩ := h
  rw [hrun] at hactive hpending
  rw [hheld hrun] at hflags htimer hlimit
  exact ⟨hactive.trans hst.symm, fun hp => absurd (hpending hp) (by decide), hflags.trans (hheld hst).symm,
    htimer.trans (hheld hst).symm, hlimit.trans (hheld hst).symm⟩

theorem LaneState.running_of_voidable {st : LaneState} (h : st.voidable = true) : st.running = false := by
  revert h
  cases st <;> decide

/-- A clearing started on a lane that runs no show, its port bound in the SCREEN role (R146, R151). -/
theorem startClearing_lanesLawful {n : LaneIx} {s : State} (hs : s.lanesLawful)
    (hst : (s.lane n).state = .quarantine ∨ (s.lane n).state = .offline) (hbound : (s.port n).boundScreen = true) :
    (startClearing n s).lanesLawful := by
  obtain ⟨⟨hshow, hgrants, -⟩, -⟩ := id hs n
  have hrun : (s.lane n).state.running = false := by rcases hst with h | h <;> rw [h] <;> rfl
  refine lanesLawful_of_local (startClearing_local n s) hs ?_ fun _ => ?_
  · rw [lane_startClearing, rel_startClearing]
    exact ⟨hshow.restate hrun rfl, hgrants, nofun, nofun, rfl⟩
  · rw [boundScreen_of_sends (startClearing_sends n s) (by simp [startClearing]), hbound]

/-- A state whose lanes are lawful, and lane n's port bound in the SCREEN role. -/
theorem laneBind_lanesLawful {n : LaneIx} {s : State} (hs : s.lanesLawful) (hbound : (s.port n).boundScreen = true) :
    (laneBind n s).lanesLawful := by
  unfold laneBind
  split
  · next hst =>
    split
    · exact startClearing_lanesLawful hs (.inr hst) hbound
    · next hmark =>
      obtain ⟨⟨hshow, hgrants, -, hoffline, hclearing⟩, -⟩ := id hs n
      rw [hst] at hclearing
      have hclear : (s.rel n).clearRequired = false := by simpa using hmark
      have hempty : (s.rel n).holdings = [] := by
        by_contra hheld
        exact hmark (hoffline hst hheld)
      refine lanesLawful_of_local (setLane_local s n _) hs ?_ fun _ => hbound
      rw [lane_setLane_same, rel_setLane]
      exact ⟨hshow.restate (by rw [hst]; rfl) rfl, hgrants, fun _ => ⟨by simp [hempty], hclear⟩, nofun, hclearing⟩
  · exact hs

/-- A port written that binds no more than it did, or whose lane runs no risk: it serves nothing, or is bound as SCREEN. -/
theorem setPort_lanesLawful {n : LaneIx} {p : ScreenPort} {s : State} (hs : s.lanesLawful)
    (h : (s.lane n).state.serves → p.boundScreen = true) : (s.setPort n p).lanesLawful := by
  refine lanesLawful_of_local (setPort_local s n p) hs (hs n).1 ?_
  rw [port_setPort_same]
  exact h

theorem bindPort_lanesLawful {n : LaneIx} (identity : Identity) {s : State} (hs : s.lanesLawful)
    (hunbound : (s.port n).boundScreen = false) : (bindPort n identity s).lanesLawful := by
  have hno : ¬ (s.lane n).state.serves := fun h => by rw [(hs n).2 h] at hunbound; exact absurd hunbound (by decide)
  have hbound : (s.setPortState n (.bound identity)).lanesLawful := setPort_lanesLawful hs fun h => absurd h hno
  unfold bindPort
  dsimp only
  split
  · next hrole =>
    refine laneBind_lanesLawful (raise_lanesLawful _ hbound) ?_
    rw [port_raise, ScreenPort.boundScreen, hrole, State.setPortState, port_setPort_same]
    rfl
  · exact raise_lanesLawful _ hbound

theorem judgeAnnounce_lanesLawful {n : LaneIx} (identity : Identity) (kind : Byte) {s : State} (hs : s.lanesLawful)
    (hunbound : (s.port n).boundScreen = false) : (judgeAnnounce n identity kind s).1.lanesLawful := by
  have hno : ¬ (s.lane n).state.serves := fun h => by rw [(hs n).2 h] at hunbound; exact absurd hunbound (by decide)
  have hset (st : PortState) : (s.setPortState n st).lanesLawful := setPort_lanesLawful hs fun h => absurd h hno
  unfold judgeAnnounce
  dsimp only
  split
  · exact hset _
  · dsimp only
    split
    · exact hset _
    · exact bindPort_lanesLawful identity hs hunbound

theorem identityChange_lanes {n : LaneIx} {s : State} (hgrants : GrantsLawful (s.lane n) (s.rel n))
    (hlaw : LaneLawful (s.lane n) (s.rel n)) :
    LaneLawful ((identityChange n s).lane n) ((identityChange n s).rel n) ∧ ¬ ((identityChange n s).lane n).state.serves := by
  unfold identityChange
  split
  · next hq => exact ⟨hlaw, by rw [hq]; exact fun h => h.elim nofun nofun⟩
  · split
    · next hempty =>
      rw [dropShow_eq, cancelDeadlines_eq, lane_setRel, lane_setLane_same, rel_setRel_same, rel_setLane]
      have hnone : (s.rel n).holdings = [] := List.isEmpty_iff.mp hempty
      exact ⟨.offline hgrants (mark := (s.rel n).clearRequired) fun h => absurd hnone h, fun h => h.elim nofun nofun⟩
    · rw [recordQuarantine, dropShow_eq, cancelDeadlines_eq, lane_raise, rel_raise, lane_setRel, lane_setLane_same,
        rel_setRel_same, rel_setLane]
      exact ⟨.quarantined hgrants, fun h => h.elim nofun nofun⟩

theorem unbindForIdentity_local (n : LaneIx) (old : Identity) (s : State) : Local n s (unbindForIdentity n old s) := by
  have hunbound : Local n s ((s.setPortState n .unbound).raise (.portUnbound n .identityChange old)) :=
    (setPort_local s n _).trans (raise_local n _ _)
  unfold unbindForIdentity
  dsimp only
  split
  · exact hunbound.trans (identityChange_local n _)
  · exact hunbound

theorem identityChange_port (n : LaneIx) (s : State) : ((identityChange n s).port n).state = (s.port n).state := by
  unfold identityChange
  split
  · rfl
  · split
    · rfl
    · rw [recordQuarantine, port_raise]; rfl

theorem unbindForIdentity_lanesLawful {n : LaneIx} {old : Identity} {s : State} (hs : s.lanesLawful) :
    (unbindForIdentity n old s).lanesLawful ∧ ((unbindForIdentity n old s).port n).boundScreen = false := by
  have hlocal := unbindForIdentity_local n old s
  unfold unbindForIdentity at hlocal ⊢
  dsimp only at hlocal ⊢
  split
  · next hrole =>
    rw [if_pos hrole] at hlocal
    -- the lane is left to nobody, so its port may be unbound
    have hlane := identityChange_lanes (n := n)
      (s := (s.setPortState n .unbound).raise (.portUnbound n .identityChange old))
      (by rw [lane_raise, rel_raise]; exact (hs n).1.2.1) (by rw [lane_raise, rel_raise]; exact (hs n).1)
    refine ⟨lanesLawful_of_local hlocal hs hlane.1 fun h => absurd h hlane.2, ?_⟩
    rw [ScreenPort.boundScreen, identityChange_port, port_raise, State.setPortState, port_setPort_same]
    rfl
  · next hrole =>
    have hno : ¬ (s.lane n).state.serves := fun h => by
      have := (hs n).2 h
      rw [ScreenPort.boundScreen, Bool.and_eq_true] at this
      exact hrole (by simpa using this.2)
    refine ⟨raise_lanesLawful _ (setPort_lanesLawful hs fun h => absurd h hno), ?_⟩
    rw [port_raise, State.setPortState, port_setPort_same]
    rfl

theorem announce_lanesLawful (n : LaneIx) (identity : Identity) (kind : Byte) {s : State} (hs : s.lanesLawful) :
    (announce n identity kind s).1.lanesLawful := by
  unfold announce
  split
  · split
    · exact hs
    · obtain ⟨hlaw, hunbound⟩ := unbindForIdentity_lanesLawful hs
      exact judgeAnnounce_lanesLawful identity kind hlaw hunbound
  · next hno =>
    refine judgeAnnounce_lanesLawful identity kind hs ?_
    unfold ScreenPort.boundScreen
    cases hst : (s.port n).state with
    | bound old => exact absurd hst (hno old)
    | _ => rfl

theorem laneUnbind_lane {n : LaneIx} {s : State} (hgrants : GrantsLawful (s.lane n) (s.rel n)) :
    LaneLawful ((laneUnbind n s).lane n) ((laneUnbind n s).rel n) ∧ ¬ ((laneUnbind n s).lane n).state.serves := by
  rw [laneUnbind_eq, lane_setRel, lane_setLane_same, rel_setRel_same]
  exact ⟨.offline hgrants fun h => by simp [h], fun h => h.elim nofun nofun⟩

/-- A SET PORT's entry judged: the lane is unbound, bound, or served as it was (R169). -/
theorem rejudgePort_lanesLawful {n : LaneIx} {entry : Binding} {s : State} (hs : s.lanesLawful) :
    (rejudgePort n (s.port n).entry.role (s.setPort n { s.port n with entry := entry })).lanesLawful := by
  obtain ⟨hlaw, hport⟩ := hs n
  have hlocal := setPort_local s n { s.port n with entry := entry }
  have hunserved (p : ScreenPort) (h : (s.port n).boundScreen = false) : (s.setPort n p).lanesLawful :=
    setPort_lanesLawful hs fun hserves => by rw [hport hserves] at h; exact absurd h (by decide)
  have hcase (p : ScreenPort) (h : ∀ identity, (s.port n).state ≠ .bound identity) : (s.setPort n p).lanesLawful := by
    refine hunserved p ?_
    unfold ScreenPort.boundScreen
    cases hst : (s.port n).state with
    | bound identity => exact absurd hst (h identity)
    | _ => rfl
  have hrole (h : (s.port n).entry.role ≠ .screen) : (s.port n).boundScreen = false := by
    simp [ScreenPort.boundScreen, h]
  unfold rejudgePort
  dsimp only
  rw [port_setPort_same]
  dsimp only
  split
  · next hst => exact hcase _ (by rw [hst]; exact fun _ => nofun)
  · next hst =>
    split
    · exact hcase _ (by rw [hst]; exact fun _ => nofun)
    · rw [State.setPortState, setPort_setPort]
      exact hcase _ (by rw [hst]; exact fun _ => nofun)
  · next identity hst =>
    unfold rejudgeBound
    dsimp only
    rw [port_setPort_same]
    dsimp only
    split
    · have hunbound : Local n s (((s.setPort n { s.port n with entry := entry }).setPortState n .unbound).raise
          (.portUnbound n .setPort identity)) := (hlocal.trans (setPort_local _ n _)).trans (raise_local n _ _)
      split
      · have hlane := laneUnbind_lane (n := n) (s := ((s.setPort n { s.port n with entry := entry }).setPortState n .unbound).raise
          (.portUnbound n .setPort identity)) (by rw [lane_raise, rel_raise]; exact hlaw.2.1)
        exact lanesLawful_of_local (hunbound.trans (laneUnbind_local n _)) hs hlane.1 fun h => absurd h hlane.2
      · next hold =>
        rw [State.setPortState, setPort_setPort]
        exact raise_lanesLawful _ (hunserved _ (hrole hold))
    · split
      · have hlane := laneUnbind_lane (n := n) (s := s.setPort n { s.port n with entry := entry }) hlaw.2.1
        exact lanesLawful_of_local (hlocal.trans (laneUnbind_local n _)) hs hlane.1 fun h => absurd h hlane.2
      · split
        · next hnew =>
          refine laneBind_lanesLawful (hunserved _ (hrole (by rw [hnew.1]; decide))) ?_
          rw [port_setPort_same]
          simp [ScreenPort.boundScreen, hst, hnew.2, PortState.isBound]
        · next henabled hobserver hscreen =>
          refine setPort_lanesLawful hs fun hserves => ?_
          have hbound := hport hserves
          have hold : (s.port n).entry.role = .screen := by
            by_contra hno
            rw [hrole hno] at hbound
            exact absurd hbound (by decide)
          have hnew : entry.role = .screen := by
            cases hr : entry.role with
            | screen => rfl
            | disabled => exact absurd (.inl hr) henabled
            | observer => exact absurd ⟨hold, hr⟩ hobserver
          simp [ScreenPort.boundScreen, hst, hnew, PortState.isBound]

/-! ## Answers and commands -/

theorem restoreLane_lanesLawful (lane : Byte) {s : State} (hs : s.lanesLawful) : (restoreLane lane s).1.lanesLawful := by
  unfold restoreLane
  split
  · exact hs
  · split
    · next h => exact startClearing_lanesLawful hs (.inl h.1) h.2
    · exact hs

theorem voidHoldings_lanesLawful (lane : Byte) {s : State} (hs : s.lanesLawful) : (voidHoldings lane s).1.lanesLawful := by
  unfold voidHoldings
  split
  · exact hs
  · next n _ =>
    split
    · next h =>
      obtain ⟨⟨hshow, hgrants, -⟩, -⟩ := id hs n
      refine lanesLawful_of_local ((setRel_local s n _).trans (setLane_local _ n _)) hs ?_ ?_
      · rw [writeOff_eq, lane_setLane_same, rel_setLane, rel_setRel_same]
        exact .empty hgrants (hshow.restate (LaneState.running_of_voidable h.1) rfl) rfl
          (show LaneState.offline ≠ .clearing by decide) (fun _ => rfl) rfl
      · rw [writeOff_eq, lane_setLane_same]
        exact fun h => h.elim nofun nofun
    · exact hs

theorem answerScreen_lanesLawful (n : LaneIx) (r : Request) {s : State} (hs : s.lanesLawful) :
    (answerScreen n r s).1.lanesLawful := by
  have hadmit (allows : Binding → Bool) (kind : Byte) (owner : State → State × Reply) (ho : (owner s).1.lanesLawful) :
      (underEntry n allows kind owner s).1.lanesLawful := by
    unfold underEntry
    split
    · exact hs
    · split
      · exact hs
      · exact ho
  cases r with
  | announce identity => exact announce_lanesLawful n identity _ hs
  | queueReel => exact hadmit _ _ _ (queueReel_lanesLawful n _ _ _ _ _ hs)
  | stopShow =>
    refine hadmit _ _ _ ?_
    unfold stopShow
    split
    · exact endShow_lanesLawful _ hs
    · exact hs
  | holdShow => exact hadmit _ _ _ (holdShow_lanesLawful n hs)
  | resumeShow => exact hadmit _ _ _ (resumeShow_lanesLawful n hs)
  | erased => exact hadmit _ _ _ (erasedAt_lanesLawful n _ hs)
  | erasedAll => exact hadmit _ _ _ (erasedAllAt_lanesLawful n hs)
  | laneStatus lane => exact hadmit _ _ _ (by rw [laneStatus_same]; exact hs)
  | clockStatus => exact hadmit _ _ _ hs
  | _ => exact hs

theorem lanes_answers : AnswersKeep (fun s t => s.lanesLawful → t.lanesLawful) where
  refl _ := id
  trans h k := k ∘ h
  framer _ _ _ := (SameLanes.of_eq rfl rfl rfl).lawful
  clock _ _ _ := (SameLanes.of_eq rfl rfl rfl).lawful
  raise _ e := raise_lanesLawful e
  evaluateSlot slot _ := evaluateSlot_lanesLawful slot
  laneTick n _ := laneTick_lanesLawful n
  oweLane n _ hs := setLane_lanesLawful hs (hs n).1 id
  countDownLane n _ := countDownLane_lanesLawful n
  timeOutWithdrawals n _ := timeOutWithdrawals_lanesLawful n
  timeOutClearing n _ := timeOutClearing_lanesLawful n
  portTick n s := (portTick_sameLanes n s).lawful
  recheckAt n _ := recheckAt_lanesLawful n
  screen n r _ := answerScreen_lanesLawful n r
  loadKey f kind s hs := by
    rcases loadKey_cases f kind s with hsame | ⟨k, e, -, -, -, hloaded⟩
    · rw [hsame]; exact hs
    · rw [hloaded]; exact raise_lanesLawful e (setKey_lanesLawful f.slot k hs)
  revokeKey slot kind _ := revokeKey_lanesLawful slot kind
  purgeKey slot kind s hs := by
    rcases purgeKey_cases slot kind s with hsame | ⟨e, -, hpurged⟩
    · rw [hsame]; exact hs
    · rw [hpurged]; exact raise_lanesLawful e ((SameLanes.of_eq rfl rfl rfl).lawful hs)
  setPort port identity role classes kind s hs := by
    rcases setPort_cases port identity role classes kind s with hsame | ⟨n, entry, -, hwritten⟩
    · rw [hsame]; exact hs
    · rw [hwritten]; exact rejudgePort_lanesLawful hs
  laneParams n _ _ _ _ hs := setLane_lanesLawful hs (hs n).1 id
  restoreLane lane _ := restoreLane_lanesLawful lane
  voidHoldings lane _ := voidHoldings_lanesLawful lane
  flags _ _ _ _ := (SameLanes.of_eq rfl rfl rfl).lawful
  clearKeyMark slot s hs := by
    obtain ⟨keys, h⟩ := clearKeyMark_frame s slot
    rw [h]
    exact (SameLanes.of_eq rfl rfl rfl).lawful hs
  clearLaneMark named n s hs := by
    unfold clearLaneMark
    split
    · exact setLane_lanesLawful hs (hs n).1 id
    · exact hs
  zeroCounters s hs n := by
    rw [lane_zeroCounters, port_zeroCounters]
    exact hs n

theorem restartBlocks_lanesLawful {s : State}
    (hs : ∀ n, (s.rel n).holdings.Pairwise (· < ·) ∧ (s.rel n).holdings.length ≤ 5) : (restartBlocks s).lanesLawful := by
  intro n
  have hlane : (restartBlocks s).lane n = .afterReset := get_sixteen _ n
  have hrel : (restartBlocks s).rel n = (s.rel n).afterReset := get_map s.releases Release.afterReset n
  rw [hlane, hrel]
  obtain ⟨hsorted, hfive⟩ := hs n
  refine ⟨⟨by decide, ⟨Nat.zero_le _, .nil, nofun, ⟨Nat.le_refl 1, (by decide : 1 ≤ 65535)⟩, nofun, hsorted, hfive⟩, nofun, fun _ hheld => ?_, rfl⟩,
    fun h => h.elim nofun nofun⟩
  simpa [Release.afterReset] using hheld

theorem lanesLawful_holdings {s : State} (hs : s.lanesLawful) (n : LaneIx) :
    (s.rel n).holdings.Pairwise (· < ·) ∧ (s.rel n).holdings.length ≤ 5 := by
  obtain ⟨⟨-, ⟨-, -, -, -, -, hsorted, hfive⟩, -⟩, -⟩ := hs n
  exact ⟨hsorted, hfive⟩

theorem lanes_commands : CommandsKeep (fun s t => s.lanesLawful → t.lanesLawful) where
  toEventsKeep := lanes_answers.toEventsKeep
  period _ _ := (SameLanes.of_eq rfl rfl rfl).lawful
  handle p tag r s _ hs := by
    have hkept (u : State) (k : Option PortId) : u.lanesLawful → { u with kept := k }.lanesLawful :=
      (SameLanes.of_eq rfl rfl rfl).lawful
    have hbegin : (beginTaking p s).lanesLawful := hkept _ _ ((setLink_sameLanes s p _).lawful hs)
    exact hkept _ _ ((setLink_sameLanes _ p _).lawful (lanes_answers.answer p r _ hbegin))
  frameError p s hs := by
    cases p with
    | mgmt => exact (setLink_sameLanes s .mgmt _).lawful hs
    | screen n =>
      rw [frameError_screen]
      split
      · exact raise_lanesLawful _ ((setPort_sameLanes _ n).lawful ((setPort_sameLanes s n).lawful hs))
      · exact (setPort_sameLanes s n).lawful hs
  receiver s p _ := (setLink_sameLanes s p _).lawful
  fill s p _ := (setLink_sameLanes s p _).lawful
  sent s p _ _ _ := (setLink_sameLanes s p _).lawful
  holdLevel _ _ _ := (SameLanes.of_eq rfl rfl rfl).lawful
  assertAt n _ := assertAt_lanesLawful n
  releaseAt n _ := releaseAt_lanesLawful n
  supply _ _ := (SameLanes.of_eq rfl rfl rfl).lawful
  restart _ hs := restartBlocks_lanesLawful (lanesLawful_holdings hs)

/-! ## Main power-up -/

theorem evaluate_holdings (s : State) (n : LaneIx) : ((evaluate s).rel n).holdings = (s.rel n).holdings := by
  refine evaluate_through (fun s t => (t.rel n).holdings = (s.rel n).holdings) (fun _ => rfl) (fun h k => k.trans h)
    (fun slot s => ?_) s
  unfold evaluateSlot
  split
  · rfl
  · dsimp only
    split
    · rfl
    · split
      · rw [(expiryNotice_retains slot _).holdings, rel_raise, rel_setKey]
      · rw [rel_raise, rel_setKey]

theorem clockLeavesMain_holdings (regress : Bool) (s : State) (n : LaneIx) :
    ((clockLeavesMain regress s).rel n).holdings = (s.rel n).holdings := by
  unfold clockLeavesMain
  dsimp only
  split
  · rw [evaluate_holdings, rel_setClock]
  · rw [rel_setClock]

/-- A main power-up leaves every lane as after reset, with the holdings that the marker left it (R152, R153, R183). -/
theorem returnMain_lanesLawful (fit1 fit0 : Bool) {s : State} (hs : s.lanesLawful) : (returnMain fit1 fit0 s).lanesLawful := by
  unfold returnMain
  split
  · exact hs
  · have hreset : (mainReset (readMarker { s with supply := { s.supply with mainOn := true } })).lanesLawful := by
      refine restartBlocks_lanesLawful fun n => ?_
      rw [clockLeavesMain_holdings]
      unfold readMarker
      split
      · exact lanesLawful_holdings hs n
      · have hempty (u : State) : ((clearRetained u).rel n).holdings.Pairwise (· < ·) ∧ ((clearRetained u).rel n).holdings.length ≤ 5 := by
          rw [clearRetained_holdings]
          exact ⟨.nil, Nat.zero_le _⟩
        exact hempty _
    dsimp only
    split
    · exact hreset
    · unfold endReset
      dsimp only
      split
      · exact raise_lanesLawful _ ((SameLanes.of_eq rfl rfl rfl).lawful hreset)
      · exact (SameLanes.of_eq rfl rfl rfl).lawful hreset

/-- Settles O6: each operation keeps the law of the lane it works on, and leaves the others alone. -/
theorem stepKeepsLanes : Obligations.StepKeepsLanes :=
  step_keeps_of_return lanes_commands (fun fit1 fit0 _ => returnMain_lanesLawful fit1 fit0)
    (fun _ _ => (SameLanes.of_eq rfl rfl rfl).lawful)

end Sys2Proof.Machine
end

section
/-! PROOFS. The step and the queue, the state after reset, unfitted ports, the lamp, and the requests that are answered without any
effect but their reply (O1, O9, O13, O21, O22, O25, O45). -/

namespace Sys2Proof.Machine

/-! ## The step, the lamp, and unfitted ports -/

/-- Settles O1: the step's own equation. -/
theorem stepRunsFrontCommand : Obligations.StepRunsFrontCommand := by
  intro s c rest h
  simp only [step, h]

theorem any_lanes_iff (s : State) (p : Lane → Bool) : s.lanes.toList.any p = true ↔ ∃ n, p (s.lane n) = true := by
  simp only [List.any_eq_true, Vector.mem_toList_iff, Vector.mem_iff_getElem]
  constructor
  · rintro ⟨l, ⟨i, hi, rfl⟩, hp⟩
    exact ⟨⟨i, hi⟩, hp⟩
  · rintro ⟨n, hp⟩
    exact ⟨s.lane n, ⟨n.val, n.isLt, rfl⟩, hp⟩

/-- Settles O25: the lamp's table, pattern by pattern. -/
theorem lampFollowsTheTable : Obligations.LampFollowsTheTable := by
  intro s
  unfold lamp
  cases s.running
  · simp
  · have hany := any_lanes_iff s (fun l => l.state == .quarantine)
    simp only [beq_iff_eq] at hany
    cases hq : s.lanes.toList.any (fun l => l.state == .quarantine) <;> rw [hq] at hany <;> cases s.clock.time <;> simp_all

theorem listening_of_unfitted {s : State} {n : LaneIx} (h : s.isFitted n = false) : s.listening (.screen n) = false := by
  simp [State.listening, h]

/-- Settles O13: what a port reads, takes and sends it does while it listens. -/
theorem unfittedPortIsDeaf : Obligations.UnfittedPortIsDeaf := by
  intro n tag r chars gapMicros char unsealed s hf
  have hdeaf := listening_of_unfitted hf
  have hread : receiveAll (.screen n) unsealed chars s = s := by simp [receiveAll, hdeaf]
  have hgap : receiveGap (.screen n) chars gapMicros char unsealed s = s := by simp [receiveGap, hdeaf]
  have htake : takeRequest (.screen n) s = s := by simp [takeRequest, hdeaf]
  have hsend : sendFrame (.screen n) s = s := by simp [sendFrame, hdeaf]
  exact ⟨by rw [exec_onPort, arrive_of_deaf _ _ _ _ hdeaf], congrArg _ hread, congrArg _ hread, congrArg _ hgap, congrArg _ htake,
    congrArg _ hsend⟩

/-! ## The state after reset -/

theorem lane_reset (n : LaneIx) : State.reset.lane n = .afterReset := get_sixteen _ n
theorem rel_reset (n : LaneIx) : State.reset.rel n = .clear := get_sixteen _ n
theorem port_reset (n : LaneIx) : State.reset.port n = .afterReset := get_sixteen _ n

theorem reset_lanesLawful : State.reset.lanesLawful := by
  intro n
  rw [lane_reset, rel_reset, port_reset]
  exact ⟨⟨by decide, ⟨Nat.zero_le _, .nil, nofun, ⟨Nat.le_refl 1, by decide⟩, nofun, .nil, Nat.zero_le _⟩, nofun, nofun, rfl⟩,
    fun h => h.elim nofun nofun⟩

theorem reset_listsLawful : State.reset.listsLawful := by
  refine ⟨rfl, by decide, fun n => ?_⟩
  rw [port_reset]
  exact Nat.zero_le _

theorem reset_holdersLawful : State.reset.holdersLawful := by
  refine ⟨nofun, fun n => ?_⟩
  rw [rel_reset]
  exact nofun

/-- Settles O9: every item of the reset state is written out in it. -/
theorem resetIsLawfulWithItsValues : Obligations.ResetIsLawfulWithItsValues := by
  refine ⟨⟨⟨reset_keysWf, .nil⟩, reset_listsLawful, reset_lanesLawful, reset_holdersLawful, cleared_lawful,
    afterReset_framerLawful _⟩, rfl, rfl, rfl, rfl, rfl, rfl, rfl, rfl, fun n => ?_, fun n => ?_, fun n => ?_, rfl, by decide, rfl, rfl⟩
  · rw [lane_reset]; exact ⟨rfl, rfl, rfl, rfl⟩
  · rw [rel_reset]; exact ⟨rfl, rfl, rfl, rfl⟩
  · rw [port_reset]; exact ⟨rfl, rfl, rfl, rfl⟩

/-! ## A request that is taken at once -/

/-- An answer that leaves a state with no place kept: the reply goes out last, and nothing else is done. -/
theorem exec_of_answer {p : PortId} {r : Request} {s t : State} {rp : Reply} (tag : Byte) (h : s.ready p)
    (ha : answer p r (s.holding p) = (t.holding p, rp)) (hkept : t.kept = none) :
    exec (onPort p tag r) s = .next (t.place p (.reply tag rp)) := by
  rw [exec_of_ready p tag r s h, ha, replyOn_same p tag t rp hkept]

/-- An answer that changes nothing: the reply alone goes out. -/
theorem exec_of_reply {p : PortId} {r : Request} {s : State} {rp : Reply} (tag : Byte) (h : s.ready p)
    (ha : answer p r (s.holding p) = (s.holding p, rp)) : exec (onPort p tag r) s = .next (s.place p (.reply tag rp)) :=
  exec_of_answer tag h ha h.2.2.2

/-- A request for show control on a port that takes at once and admits it goes to its owner (R165, R166). -/
theorem underEntry_of_readyShow {n : LaneIx} {s : State} (h : s.readyShow n) (kind : Byte) (owner : State → State × Reply) :
    underEntry n Binding.admitsShow kind owner (s.holding (.screen n)) = owner (s.holding (.screen n)) := by
  obtain ⟨⟨-, hbound⟩, hshow⟩ := h
  rw [ScreenPort.boundScreen, Bool.and_eq_true] at hbound
  exact underEntry_of_bound _ _ _ _ _ hbound.1 (by simp [Binding.admitsShow, hbound.2, hshow])

/-- A confirmation on a port that takes at once goes to its owner (R165, R166). -/
theorem underEntry_of_readyScreen {n : LaneIx} {s : State} (h : s.readyScreen n) (kind : Byte) (owner : State → State × Reply) :
    underEntry n Binding.admitsErased kind owner (s.holding (.screen n)) = owner (s.holding (.screen n)) := by
  obtain ⟨-, hbound⟩ := h
  rw [ScreenPort.boundScreen, Bool.and_eq_true] at hbound
  exact underEntry_of_bound _ _ _ _ _ hbound.1 (by simp [Binding.admitsErased, hbound.2])

/-! ## Requests with no effect but their reply -/

/-- Settles O45: in QUARANTINE an ERASED ALL is answered with the lane as it stands. -/
theorem erasedAllIsRefusedInQuarantine : Obligations.ErasedAllIsRefusedInQuarantine := by
  intro n tag s h hst
  refine exec_of_reply (r := .erasedAll) tag h.1 ?_
  refine (underEntry_of_readyScreen h _ _).trans ?_
  simp only [erasedAllAt, lane_holding, hst]

/-- Settles O21: a kind map that names no position above 16 is written whole, any other refused. -/
theorem setEventMaskWritesEnables : Obligations.SetEventMaskWritesEnables := by
  intro tag kinds s h
  have hanswer : answer .mgmt (.setEventMask kinds) (s.holding .mgmt) = setEventMask kinds 0x1E (s.holding .mgmt) := rfl
  refine ⟨fun hlt => exec_of_answer (r := .setEventMask kinds) (t := { s with mask := kinds.setWidth 17 }) tag h ?_ h.2.2.2,
    fun hge => exec_of_reply (r := .setEventMask kinds) tag h ?_⟩
  · rw [hanswer, setEventMask, namesNoKind, decide_eq_false (Nat.not_le.mpr hlt)]
    rfl
  · rw [hanswer, setEventMask, namesNoKind, decide_eq_true hge]
    rfl

theorem laneReport_holding (n : LaneIx) (s : State) (p : PortId) : laneReport n (s.holding p) = laneReport n s := rfl

theorem keyReport_holding (slot : Nat) (k : Key) (s : State) (p : PortId) : keyReport slot k (s.holding p) = keyReport slot k s := rfl

/-- Settles O22: a query's answer reads the state, and the place kept does not show in it. -/
theorem queriesOnlyReply : Obligations.QueriesOnlyReply := by
  intro tag s h
  refine ⟨exec_of_reply (r := .statusSummary) tag h rfl, exec_of_reply (r := .clockStatus) tag h rfl, fun n lane hlane => ?lane,
    fun slot k hslot hkey => ?key, fun slot hslot => ?range⟩
  case lane =>
    refine exec_of_reply (r := .laneStatus lane) tag h ?_
    change laneStatus .mgmt lane _ = _
    simp only [laneStatus, hlane, laneReport_holding, true_or, if_true]
  case key =>
    refine exec_of_reply (r := .keyStatus slot) tag h ?_
    change keyStatus slot.toNat _ _ = _
    simp [keyStatus, slotInRange, hslot, hkey, keyReport_holding]
  case range =>
    refine exec_of_reply (r := .keyStatus slot) tag h ?_
    change keyStatus slot.toNat _ _ = _
    simp [keyStatus, slotInRange, Nat.not_lt.mpr hslot, Request.kind]

end Sys2Proof.Machine
end

section
/-! PROOFS. What a request's reply leaves of its answer; and the requests that set parameters: SEED TIME, SET CLOCK PARAMETERS, SET
LANE PARAMETERS (R38, R40, R41, R105; O26, O27, O41). -/

namespace Sys2Proof.Machine

/-! ## An answer with its reply placed -/

section replies

variable (p : PortId) (tag : Byte) (t : State) (rp : Reply)

@[simp] theorem lane_replyOn (n : LaneIx) : (replyOn p tag (t, rp)).lane n = t.lane n := lane_place t p _ n
@[simp] theorem rel_replyOn (n : LaneIx) : (replyOn p tag (t, rp)).rel n = t.rel n := rel_place t p _ n
@[simp] theorem key_replyOn (slot : Nat) : (replyOn p tag (t, rp)).key slot = t.key slot := key_place t p _ slot
@[simp] theorem replyOn_keys : (replyOn p tag (t, rp)).keys = t.keys := place_keys t p _
@[simp] theorem replyOn_releases : (replyOn p tag (t, rp)).releases = t.releases := setLink_releases t p _
@[simp] theorem replyOn_clock : (replyOn p tag (t, rp)).clock = t.clock := place_clock t p _
@[simp] theorem replyOn_framer : (replyOn p tag (t, rp)).framer = t.framer := place_framer t p _
@[simp] theorem replyOn_supply : (replyOn p tag (t, rp)).supply = t.supply := place_supply t p _
@[simp] theorem replyOn_sticky : (replyOn p tag (t, rp)).sticky = t.sticky := place_sticky t p _

@[simp] theorem portState_replyOn (n : LaneIx) : ((replyOn p tag (t, rp)).port n).state = (t.port n).state :=
  (port_place_items t p _ n).2.1

theorem link_replyOn (q : PortId) : (replyOn p tag (t, rp)).link q = (t.place p (.reply tag rp)).link q := by cases q <;> rfl

theorem link_replyOn_same : ((replyOn p tag (t, rp)).link p).tx = (t.link p).tx ++ [.reply tag rp] := by
  rw [link_replyOn, link_place_same]

theorem link_replyOn_last : ((replyOn p tag (t, rp)).link p).tx.getLast? = some (.reply tag rp) := by
  rw [link_replyOn_same, List.getLast?_concat]

@[simp] theorem port_replyOn_mgmt (n : LaneIx) : (replyOn .mgmt tag (t, rp)).port n = t.port n := rfl

theorem port_replyOn_other {n m : LaneIx} (h : m ≠ n) : (replyOn (.screen n) tag (t, rp)).port m = t.port m :=
  port_place_other t _ h

@[simp] theorem replyOn_mgmt_screen (n : LaneIx) : (replyOn (.screen n) tag (t, rp)).mgmt = t.mgmt := rfl

end replies

/-- An answer that only sends leaves the settings, the framer, the clock and the error windows alone. -/
theorem replyOn_keepsRest {p : PortId} {s t : State} (tag : Byte) (rp : Reply) (hkept : s.kept = none)
    (h : Sends (s.holding p) t) : s.keepsRest (replyOn p tag (t, rp)) := by
  obtain ⟨⟨hsupply, hlock, hhold, hms, hmask, -, hpending, hitems⟩, hframer, hclock, hports⟩ := h.keepsRest
  have hitem (n : LaneIx) := port_place_items t p (.reply tag rp) n
  refine ⟨⟨(place_supply t p _).trans hsupply, (setLink_policyLock t p _).trans hlock, (setLink_siteHold t p _).trans hhold,
    (setLink_siteStableMs t p _).trans hms, (place_mask t p _).trans hmask, hkept.symm, (place_pending t p _).trans hpending,
    fun n => ?_⟩, (place_framer t p _).trans hframer, (place_clock t p _).trans hclock, fun n => ?_⟩
  · obtain ⟨hentry, hwt, hl, hdt⟩ := hitems n
    obtain ⟨hentry', -⟩ := hitem n
    refine ⟨hentry'.trans hentry, ?_⟩
    rw [lane_replyOn]
    exact ⟨hwt, hl, hdt⟩
  · obtain ⟨hslices, hdt, hdeg⟩ := hports n
    obtain ⟨-, -, hslices', hdt', hdeg'⟩ := hitem n
    exact ⟨hslices'.trans hslices, hdt'.trans hdt, hdeg'.trans hdeg⟩

theorem running_of_ready {s : State} (h : s.ready .mgmt) : s.running = true := h.1

/-! ## SEED TIME (R40) -/

theorem announceTimeState_clock (before : TimeState) (cause : TimeCause) (s : State) :
    (announceTimeState before cause s).clock = s.clock := (announceTimeState_sends before cause s).clock

theorem announceTimeState_sticky (before : TimeState) (cause : TimeCause) {s : State} (hr : s.running = true) :
    (announceTimeState before cause s).sticky.getLsbD EventKind.timeState.code = true :=
  raise_sticky (evaluate s) (.timeState before s.clock.time cause) ((running_congr (evaluate_sends s).supply).trans hr)

/-- Settles O26: the clock is seeded in NO TIME alone. -/
theorem seedTimeSetsTheClock : Obligations.SeedTimeSetsTheClock := by
  intro tag value uncertainty s h
  have hanswer : answer .mgmt (.seedTime value uncertainty) (s.holding .mgmt)
      = seedTime value.toNat uncertainty.toNat 0x18 (s.holding .mgmt) := rfl
  refine ⟨fun hno => ?_, fun hsome => ?_⟩
  · have hseeded : s.clock.seeded value.toNat (seedTaken uncertainty.toNat) = { s.clock with
            time := if s.clock.params.uc < max 1 (min 600 uncertainty.toNat) then .unassured else .holdover
            t := some value.toNat, u0 := 1000 * max 1 (min 600 uncertainty.toNat), acc := 0
            uMs := some (1000 * max 1 (min 600 uncertainty.toNat)), h := some 0 } := by
      have hu0 : seedTaken uncertainty.toNat * 1000 = 1000 * max 1 (min 600 uncertainty.toNat) := Nat.mul_comm _ _
      have hu : ceilSeconds (1000 * max 1 (min 600 uncertainty.toNat)) = max 1 (min 600 uncertainty.toNat) := by
        unfold ceilSeconds
        omega
      simp only [Clock.seeded, hu0, hu]
    have hexec := exec_of_ready .mgmt tag (.seedTime value uncertainty) s h
    rw [hanswer, seedTime, if_pos (show (s.holding .mgmt).clock.time = .noTime from hno)] at hexec
    simp only [holding_clock, setClock_clock] at hexec
    rw [hseeded] at hexec
    generalize { s.clock with
            time := if s.clock.params.uc < max 1 (min 600 uncertainty.toNat) then TimeState.unassured else .holdover
            t := some value.toNat, u0 := 1000 * max 1 (min 600 uncertainty.toNat), acc := 0
            uMs := some (1000 * max 1 (min 600 uncertainty.toNat)), h := some 0 } = c at hexec
    have hclock := announceTimeState_clock .noTime .seed ((s.holding .mgmt).setClock c)
    refine ⟨_, hexec, ?_, ?_, ?_, ?_⟩
    · rw [replyOn_clock, hclock, setClock_clock]
    · rw [replyOn_sticky]
      exact announceTimeState_sticky _ _ (show s.running = true from running_of_ready h)
    · rw [replyOn_clock, hclock]
      exact link_replyOn_last .mgmt tag _ _
    · rw [replyOn_clock, hclock]
      exact replyOn_keepsRest (s := s.setClock c) tag _ h.2.2.2 (announceTimeState_sends .noTime .seed _)
  · refine exec_of_reply (r := .seedTime value uncertainty) tag h ?_
    rw [hanswer, seedTime, if_neg (show ¬ (s.holding .mgmt).clock.time = .noTime from hsome)]

/-! ## SET CLOCK PARAMETERS (R38, R41) -/

theorem Clock.ceilingState_eq (c : Clock) : c.ceilingState = if c.time = .holdover ∨ c.time = .unassured then
    (if c.params.uc < c.u then .unassured else .holdover) else c.time := by
  unfold Clock.ceilingState
  cases h : c.time <;> simp

theorem compareCeiling_sends (s : State) : Sends (s.setClock { s.clock with time := s.clock.ceilingState }) (compareCeiling s) := by
  unfold compareCeiling
  split
  · next h => rw [h]; exact Sends.refl s
  · exact announceTimeState_sends _ _ _

/-- Settles O27: the fields present are clamped and written, and a ceiling written is compared with U. -/
theorem setClockParametersClamps : Obligations.SetClockParametersClamps := by
  intro tag r uc k e checkLoss failTime strict s h
  let written := s.clock.params.taking (fieldNat r) (fieldNat uc) (fieldNat k) (fieldNat e) checkLoss (fieldNat failTime) strict
  have hwritten : written =
      { r := (r.map (fun v => max 1 (min 500 v.toNat))).getD s.clock.params.r
        uc := (uc.map (fun v => max 5 (min 600 v.toNat))).getD s.clock.params.uc
        k := (k.map (fun v => max 2 (min 4 v.toNat))).getD s.clock.params.k
        e := (e.map (fun v => max 2 (min 16 v.toNat))).getD s.clock.params.e
        checkLoss := checkLoss.getD s.clock.params.checkLoss
        failTime := (failTime.map (fun v => max 2 (min 120 v.toNat))).getD s.clock.params.failTime
        strict := strict.getD s.clock.params.strict } := by
    simp only [written, ClockParams.taking, fieldNat, Option.map_map]
    rfl
  let c := { s.clock with params := written }
  let time := if uc.isSome = true then c.ceilingState else c.time
  have htime : time = if uc.isSome = true ∧ (s.clock.time = .holdover ∨ s.clock.time = .unassured) then
      (if written.uc < s.clock.u then .unassured else .holdover) else s.clock.time := by
    simp only [time, Clock.ceilingState_eq, c]
    cases uc with
    | none => simp
    | some v =>
      simp only [Option.isSome_some, if_true, true_and]
      rfl
  obtain ⟨t, hexec, hsends⟩ : ∃ t, exec (.setClockParameters .mgmt tag r uc k e checkLoss failTime strict) s
      = .next (replyOn .mgmt tag (t, .setClockParameters written t.clock.time))
      ∧ Sends ((s.setClock { c with time := time }).holding .mgmt) t := by
    refine ⟨_, exec_of_ready .mgmt tag (.setClockParameters r uc k e checkLoss failTime strict) s h, ?_⟩
    cases uc with
    | none => exact Sends.refl _
    | some v => exact compareCeiling_sends ((s.holding .mgmt).setClock c)
  have hclock : t.clock = { c with time := time } := hsends.clock
  refine ⟨_, hexec, ?_, ?_, ?_, ?_, ?_⟩
  · rw [replyOn_clock, hclock, ← hwritten]
  · rw [replyOn_clock, hclock]
    exact htime
  · rw [replyOn_clock, hclock]
  · rw [replyOn_clock, hclock]
    exact link_replyOn_last .mgmt tag t _
  · rw [replyOn_clock, hclock]
    exact replyOn_keepsRest (s := s.setClock { c with time := time }) tag _ h.2.2.2 hsends

/-! ## SET LANE PARAMETERS (R105) -/

theorem lanesNamed_of_fitted {lane : Byte} {n : LaneIx} {s : State} (h : laneOf lane = some n) (hf : s.isFitted n = true) :
    lanesNamed lane s = some [n] := by
  have hne : lane ≠ 0xFF := by
    rintro rfl
    rw [laneOf_of_out_of_range (by decide)] at h
    exact absurd h nofun
  rw [lanesNamed, if_neg hne, h]
  simp [hf]

theorem lanesNamed_of_refused {lane : Byte} {s : State} (hne : lane ≠ 0xFF)
    (h : ∀ n, laneOf lane = some n → s.isFitted n = false) : lanesNamed lane s = none := by
  rw [lanesNamed, if_neg hne]
  cases hl : laneOf lane with
  | none => rfl
  | some n => simp [h n hl]

/-- The lanes of a list written, each from what it was. -/
theorem foldl_setLane (f : Lane → Lane) (lanes : List LaneIx) (hnodup : lanes.Nodup) (s : State) :
    ∃ v, lanes.foldl (fun s n => s.setLane n (f (s.lane n))) s = { s with lanes := v }
      ∧ ∀ n, ({ s with lanes := v } : State).lane n = if n ∈ lanes then f (s.lane n) else s.lane n := by
  induction lanes generalizing s with
  | nil => exact ⟨s.lanes, rfl, fun n => by simp⟩
  | cons m lanes ih =>
    obtain ⟨hm, hrest⟩ := List.nodup_cons.mp hnodup
    obtain ⟨v, hv, hlane⟩ := ih hrest (s.setLane m (f (s.lane m)))
    refine ⟨v, hv, fun n => ?_⟩
    have hn := hlane n
    by_cases hnm : n = m
    · subst hnm
      rw [if_neg hm, lane_setLane_same] at hn
      rw [if_pos List.mem_cons_self]
      exact hn
    · rw [lane_setLane_other _ _ hnm] at hn
      simp only [List.mem_cons, hnm, false_or]
      exact hn

/-- Settles O41: one fitted lane, every fitted lane, or none. -/
theorem setLaneParametersClamps : Obligations.SetLaneParametersClamps := by
  intro tag lane wt l dt s h written
  have htaking (n : LaneIx) : (s.lane n).taking (fieldNat wt) (fieldNat l) (fieldNat dt) = written n := by
    simp only [written, Lane.taking, fieldNat, Option.map_map]
    rfl
  refine ⟨fun n hlane hfitted => ?one, fun hall => ?all, fun hne hunfitted => ?refused⟩
  case one =>
    refine exec_of_answer (r := .setLaneParameters lane wt l dt) (t := s.setLane n (written n)) tag h ?_ h.2.2.2
    change setLaneParameters lane (fieldNat wt) (fieldNat l) (fieldNat dt) (s.holding .mgmt) = _
    rw [setLaneParameters, lanesNamed_of_fitted hlane (s := s.holding .mgmt) hfitted]
    simp only [List.foldl_cons, List.foldl_nil, lane_holding, htaking, List.map_cons, List.map_nil, lane_setLane_same]
    rfl
  case all =>
    have hnamed : lanesNamed lane (s.holding .mgmt) = some (allLanes.filter (fun n => s.isFitted n)) := by
      rw [lanesNamed, if_pos hall]
      rfl
    have hexec := exec_of_ready .mgmt tag (.setLaneParameters lane wt l dt) s h
    change _ = Host.Outcome.next (replyOn .mgmt tag (setLaneParameters lane (fieldNat wt) (fieldNat l) (fieldNat dt) (s.holding .mgmt)))
      at hexec
    rw [setLaneParameters, hnamed] at hexec
    obtain ⟨v, hfold, hlane⟩ := foldl_setLane (fun l' => l'.taking (fieldNat wt) (fieldNat l) (fieldNat dt))
      (allLanes.filter (fun n => s.isFitted n)) (allLanes_nodup.filter _) (s.holding .mgmt)
    simp only [hfold] at hexec
    refine ⟨_, hexec, fun n => ?_, ?_⟩
    · rw [lane_replyOn, hlane n, lane_holding, htaking]
      simp only [List.mem_filter, mem_allLanes, true_and]
    · simp only [replyOn_keys, replyOn_releases, replyOn_clock, replyOn_framer, replyOn_supply, replyOn_sticky]
      exact ⟨rfl, rfl, rfl, rfl, rfl, rfl, rfl, rfl, rfl⟩
  case refused =>
    refine exec_of_reply (r := .setLaneParameters lane wt l dt) tag h ?_
    change setLaneParameters lane (fieldNat wt) (fieldNat l) (fieldNat dt) (s.holding .mgmt) = _
    rw [setLaneParameters, lanesNamed_of_refused hne (s := s.holding .mgmt) hunfitted]
    rfl

end Sys2Proof.Machine
end

section
/-! PROOFS. LOAD KEY: its eight checks in order, and the record it writes; REVOKE KEY: what the revocation notice leaves of every lane
(R53, R54, R62, R63; O29, O30). -/

namespace Sys2Proof.Machine

/-! ## The checks of a LOAD KEY (R53) -/

theorem loadChecks_range {f : LoadFields} {s : State} (h : 512 ≤ f.slot) : loadChecks f s = .error .badField := by
  simp [loadChecks, slotInRange, Nat.not_lt.mpr h]

theorem loadChecks_occupied {f : LoadFields} {s : State} (hslot : f.slot < 512) (h : (s.key f.slot).isSome = true) :
    loadChecks f s = .error .slotOccupied := by
  simp [loadChecks, slotInRange, hslot, h]

theorem labelInUse_iff (label : Label) (s : State) : labelInUse label s = true ↔ ∃ e ∈ s.keys, e.2.label = label := by
  simp [labelInUse]

/-- The checks past the label, on an EMPTY slot whose label is in no use. -/
theorem loadChecks_of_free {f : LoadFields} {s : State} (hslot : f.slot < 512) (hempty : s.key f.slot = none)
    (hlabel : ∀ e ∈ s.keys, e.2.label ≠ f.label) : loadChecks f s =
      if f.na ≤ f.nb then .error .windowInvalid
      else if 7200 < f.a ∨ f.c = 0 then .error .badField
      else if screensTaken s.supply.fitted f.screens = 0#16 then .error .badField
      else match f.unsealed with
        | none => .error .sealFailed
        | some material => if windowPassed f s.clock then .error .windowPassed else .ok material := by
  have hfree : labelInUse f.label s = false := by
    rw [Bool.eq_false_iff, Ne, labelInUse_iff]
    rintro ⟨e, he, heq⟩
    exact hlabel e he heq
  simp only [loadChecks, slotInRange, hslot, hempty, hfree, decide_true, Bool.not_true, Option.isSome_none, Bool.false_eq_true,
    if_false] <;> rfl

theorem loadChecks_duplicate {f : LoadFields} {s : State} (hslot : f.slot < 512) (hempty : s.key f.slot = none)
    (hlabel : ∃ e ∈ s.keys, e.2.label = f.label) : loadChecks f s = .error .duplicateLabel := by
  simp [loadChecks, slotInRange, hslot, hempty, (labelInUse_iff f.label s).mpr hlabel]

theorem loadKey_of_refused {f : LoadFields} {kind : Byte} {s : State} {reason : Answer} (h : loadChecks f s = .error reason) :
    loadKey f kind s = (s, .plain kind reason) := by
  rw [loadKey, h]

theorem loadKey_of_passed {f : LoadFields} {kind : Byte} {s : State} {material : Material} (h : loadChecks f s = .ok material) :
    loadKey f kind s =
      ((s.setKey f.slot (loadedAndJudged f material s)).raise
          (.keyState f.slot none (some (loadedAndJudged f material s).state) .loaded),
        .loadKey f.slot (loadedAndJudged f material s).screens (loadedAndJudged f material s).c (loadedAndJudged f material s).state) := by
  rw [loadKey, h]

/-- The record a LOAD KEY writes, its window not passed (R54). -/
theorem loadedAndJudged_eq {f : LoadFields} {s : State} (material : Material)
    (hpassed : s.clock.usable = true → s.clock.now < f.na + f.a + s.clock.u) : loadedAndJudged f material s =
      { loadedKey f material s.supply.fitted with
        state := if s.clock.usable = true ∧ f.na ≤ s.clock.now + s.clock.u then .closing
          else if s.clock.usable = true ∧ f.nb + s.clock.u ≤ s.clock.now then .opened else .waiting } := by
  unfold loadedAndJudged
  dsimp only
  by_cases hu : s.clock.usable = true
  · have hfurthest : (loadedKey f material s.supply.fitted).furthest s.clock.now s.clock.u =
        if f.na ≤ s.clock.now + s.clock.u then some .closing else if f.nb + s.clock.u ≤ s.clock.now then some .opened else none :=
      if_neg (Nat.not_le.mpr (hpassed hu))
    have hjudged : (loadedKey f material s.supply.fitted).judged s.clock.now s.clock.u =
        if f.na ≤ s.clock.now + s.clock.u then .closing else if f.nb + s.clock.u ≤ s.clock.now then .opened else .waiting := by
      unfold Key.judged
      rw [hfurthest]
      split_ifs <;> rfl
    simp only [hu, if_true, true_and, hjudged]
    split_ifs <;> rfl
  · simp only [hu]
    rfl

theorem mgmt_room {s : State} (h : s.ready .mgmt) : s.mgmt.tx.length + 1 < 32 := by
  have hplaces : s.mgmt.tx.length + 8 ≤ 32 := h.2.2.1
  omega

/-- Settles O29: the first check that fails refuses, and a record that passes them all is written as it is judged. -/
theorem loadKeyWritesOrRefuses : Obligations.LoadKeyWritesOrRefuses := by
  refine ⟨fun tag slot label nb na a c screens sealedMaterial material s h hslot hempty hlabel hwindow ha hc hscreens hpassed =>
    ⟨_, _, rfl, rfl, ?_⟩, ?_⟩
  · let f := loadFields slot label nb na a c screens (some material)
    have hc' : ¬ (7200 < a.toNat ∨ c.toNat = 0) := by
      rintro (h1 | h1)
      · omega
      · exact hc (BitVec.eq_of_toNat_eq h1)
    have hchecks : loadChecks f (s.holding .mgmt) = .ok material := by
      refine (loadChecks_of_free (f := f) hslot hempty hlabel).trans ?_
      have hlate : windowPassed f s.clock = false := by
        unfold windowPassed
        cases hu : s.clock.usable with
        | false => rfl
        | true => exact decide_eq_false (Nat.not_le.mpr (hpassed hu))
      rw [if_neg (show ¬ f.na ≤ f.nb from Nat.not_le.mpr hwindow), if_neg (show ¬ (7200 < f.a ∨ f.c = 0) from hc'),
        if_neg (show ¬ screensTaken s.supply.fitted f.screens = 0#16 from hscreens)]
      simp only [hlate]
      rfl
    have hjudged : loadedAndJudged f material (s.holding .mgmt) = _ := loadedAndJudged_eq (s := s) material hpassed
    have hexec := exec_of_ready .mgmt tag (.loadKey slot label nb na a c screens sealedMaterial (some material)) s h
    change _ = Host.Outcome.next (replyOn .mgmt tag (loadKey f 0x10 (s.holding .mgmt))) at hexec
    rw [loadKey_of_passed hchecks, hjudged] at hexec
    refine hexec.trans (congrArg _ ?_)
    exact replyOn_raise tag (s.setKey slot.toNat _) _ _ h.2.2.2 (mgmt_room h)
  · intro tag slot label nb na a c screens sealedMaterial unsealed s h cmd refusedWith
    have hrefused {reason : Answer} (hr : loadChecks (loadFields slot label nb na a c screens unsealed) (s.holding .mgmt)
        = .error reason) : refusedWith reason :=
      exec_of_reply (r := .loadKey slot label nb na a c screens sealedMaterial unsealed) tag h (loadKey_of_refused hr)
    refine ⟨fun hrange => hrefused (loadChecks_range hrange), fun hslot hocc => hrefused (loadChecks_occupied hslot hocc),
      fun hslot hempty => ⟨fun hdup => hrefused (loadChecks_duplicate hslot hempty hdup), fun hlabel => ?_⟩⟩
    have hchecks := loadChecks_of_free (f := loadFields slot label nb na a c screens unsealed) (s := s.holding .mgmt) hslot hempty hlabel
    dsimp only [loadFields] at hchecks
    have hzero : c.toNat = 0 ↔ c = 0 := ⟨fun h0 => BitVec.eq_of_toNat_eq h0, fun h0 => by rw [h0]; rfl⟩
    refine ⟨fun hwindow => hrefused (hchecks.trans (if_pos hwindow)), fun hwindow hbad => hrefused (hchecks.trans ?_),
      fun hwindow ha hc hscreens => ⟨fun hseal => hrefused (hchecks.trans ?_), fun hseal hu hlate => hrefused (hchecks.trans ?_)⟩⟩
    · refine (if_neg (Nat.not_le.mpr hwindow)).trans ?_
      by_cases hlimits : 7200 < a.toNat ∨ c.toNat = 0
      · exact if_pos hlimits
      · rw [hzero] at hlimits
        have hscreens : screens &&& fittedMap s.supply.fitted = 0#16 := by tauto
        rw [← hzero] at hlimits
        exact (if_neg hlimits).trans (if_pos hscreens)
    all_goals
      have hlimits : ¬ (7200 < a.toNat ∨ c.toNat = 0) := by
        rw [hzero, not_or]
        exact ⟨Nat.not_lt.mpr ha, hc⟩
      refine (if_neg (Nat.not_le.mpr hwindow)).trans ((if_neg hlimits).trans ((if_neg hscreens).trans ?_))
    · rw [hseal]
    · obtain ⟨material, rfl⟩ := Option.isSome_iff_exists.mp hseal
      simp [windowPassed, hu, hlate]

/-! ## REVOKE KEY (R62, R63) -/

theorem revokeAt_local (slot : Nat) (n : LaneIx) (s : State) : Local n s (revokeAt slot n s) := by
  have hdiscard (b : Bool) : Local n s (if b = true then s.setLane n { s.lane n with pending := none } else s) := by
    split
    · exact setLane_local s n _
    · exact Local.refl n s
  unfold revokeAt
  dsimp only
  split
  · split
    · exact (hdiscard _).trans (endShowWith_local n _ _ (bufferFreed_between n _).local' _)
    · exact (hdiscard _).trans ((bufferFreed_between n _).local' _)
  · exact Local.refl n s

/-- A lane on which nothing of a slot runs: no show is on it, and no pending reel names it. -/
def Lane.clearOf (l : Lane) (slot : Nat) : Prop :=
  l.state.running = true → l.active.any (fun x => x.slot == slot) = false ∧ l.pending.any (fun x => x.slot == slot) = false

theorem Lane.clearOf_of_rest {l : Lane} (slot : Nat) (h : l.state.running = false) : l.clearOf slot :=
  fun hr => by rw [h] at hr; exact absurd hr (by decide)

/-- The notice of a pending reel that its key's revocation frees. -/
def noteRevoked (n : LaneIx) (hit : Option PendingReel) (s : State) : State :=
  match hit with
  | none => s
  | some p => s.notify n (.bufferFree .revoked p.tag none)

theorem noteRevoked_between (n : LaneIx) (hit : Option PendingReel) : Between n (noteRevoked n hit) :=
  bufferFreed_between n hit

theorem revokeAt_of_running {slot : Nat} {n : LaneIx} {s : State} (h : (s.lane n).state.running = true) :
    revokeAt slot n s =
      let hit := (s.lane n).pending.filter (fun p => p.slot == slot)
      let s1 := if hit.isSome = true then s.setLane n { s.lane n with pending := none } else s
      if (s.lane n).active.any (fun a => a.slot == slot) = true
        then endShowWith n (.refused .revoked) (noteRevoked n hit) s1 else noteRevoked n hit s1 := by
  rw [revokeAt, if_pos h]
  rfl

/-- The revocation notice at its own lane (R63). -/
theorem revokeAt_clearOf (slot : Nat) (n : LaneIx) (s : State) : ((revokeAt slot n s).lane n).clearOf slot := by
  by_cases hrun : (s.lane n).state.running = true
  · let hit := (s.lane n).pending.filter (fun p => p.slot == slot)
    let s1 := if hit.isSome = true then s.setLane n { s.lane n with pending := none } else s
    have hkeeps : (s1.lane n).state = (s.lane n).state ∧ (s1.lane n).active = (s.lane n).active := by
      simp only [s1]
      split
      · rw [lane_setLane_same]; exact ⟨rfl, rfl⟩
      · exact ⟨rfl, rfl⟩
    have hpending : (s1.lane n).pending.any (fun x => x.slot == slot) = false := by
      simp only [s1]
      split
      · rw [lane_setLane_same]; rfl
      · next hno =>
        cases hp : (s.lane n).pending with
        | none => rfl
        | some p =>
          simp only [hit, hp, Option.filter_some] at hno
          cases hs : p.slot == slot with
          | false => simpa using hs
          | true => simp [hs] at hno
    have hfreed := noteRevoked_between n hit
    have heq : revokeAt slot n s = if (s.lane n).active.any (fun a => a.slot == slot) = true
        then endShowWith n (.refused .revoked) (noteRevoked n hit) s1 else noteRevoked n hit s1 := revokeAt_of_running hrun
    rw [heq]
    split
    · next hon =>
      have hsome : (s1.lane n).active.isSome = true := by
        rw [hkeeps.2]
        cases ha : (s.lane n).active with
        | none => rw [ha] at hon; exact absurd hon Bool.false_ne_true
        | some a => rfl
      have hst : (s1.lane n).state ≠ .quarantine := by
        rw [hkeeps.1]
        intro h
        rw [h] at hrun
        exact absurd hrun (by decide)
      rw [lane_endShowWith hfreed.toSpares hsome hst]
      refine Lane.clearOf_of_rest slot ?_
      change (s1.endedState n).running = false
      rw [State.endedState]
      split <;> rfl
    · next hno =>
      rw [hfreed.lane s1]
      intro _
      exact ⟨by rw [hkeeps.2]; simpa using hno, hpending⟩
  · rw [revokeAt, if_neg hrun]
    exact Lane.clearOf_of_rest slot (by simpa using hrun)

theorem revocationNotice_clearOf (slot : Nat) (s : State) (n : LaneIx) : ((revocationNotice slot s).lane n).clearOf slot := by
  obtain ⟨u, -, hlane⟩ := forLanes_through n (fun s t => t.lane n = s.lane n) (fun _ => rfl) (fun h k => k.trans h)
    (f := revokeAt slot) (fun m hm s => (revokeAt_local slot m s).lane n hm.symm) s
  rw [revocationNotice, hlane]
  exact revokeAt_clearOf slot n u

/-- Settles O30: the record is rewritten, and the notice leaves no lane with the slot running or pending. -/
theorem revokeKeyEndsItsShows : Obligations.RevokeKeyEndsItsShows := by
  intro tag slot s h hslot
  have hanswer : answer .mgmt (.revokeKey slot) (s.holding .mgmt) = revokeKey slot.toNat 0x11 (s.holding .mgmt) := rfl
  refine ⟨fun k hkey hexpired hrevoked => ?revoked, fun k hkey hstate => ?wrong, fun hkey => ?empty⟩
  case revoked =>
    let s1 := ((s.holding .mgmt).setKey slot.toNat { k with state := .revoked, revokedAt := s.clock.t }).raise
      (.keyState slot.toNat (some k.state) (some .revoked) .revoked)
    have hexec := exec_of_ready .mgmt tag (.revokeKey slot) s h
    have hrevoke : revokeKey slot.toNat 0x11 (s.holding .mgmt)
        = (revocationNotice slot.toNat s1, .revokeKey k.state s.clock.t) := by
      simp only [revokeKey, slotInRange, hslot, decide_true, Bool.not_true, key_holding, hkey, hexpired, hrevoked, or_self,
        Bool.false_eq_true, if_false]
      rfl
    rw [hanswer, hrevoke] at hexec
    have hretains := revocationNotice_retains slot.toNat s1
    refine ⟨_, hexec, ?_, fun other hother => ?_, fun n => ?_, fun n => ?_, ?_, ?_⟩
    · rw [key_replyOn, hretains.key, key_raise, key_setKey_same]
    · rw [key_replyOn, hretains.key, key_raise, key_setKey_other _ _ hother, key_holding]
    · rw [lane_replyOn]
      exact revocationNotice_clearOf slot.toNat s1 n
    · rw [rel_replyOn, hretains.holdings, rel_raise, rel_setKey, rel_holding]
    · exact replyOn_keepsRest tag _ h.2.2.2
        (((setKey_sends _ _ _).trans (raise_sends _ _)).trans (revocationNotice_sends _ _))
    · exact link_replyOn_last .mgmt tag _ _
  case wrong =>
    refine exec_of_reply (r := .revokeKey slot) tag h ?_
    rw [hanswer]
    simp [revokeKey, slotInRange, hslot, hkey, hstate]
  case empty =>
    refine exec_of_reply (r := .revokeKey slot) tag h ?_
    rw [hanswer]
    simp [revokeKey, slotInRange, hslot, hkey]

end Sys2Proof.Machine
end


section
/-! PROOFS. What the end of a show sends, and what it leaves of lane, list and items (R77, R126, R135). -/

namespace Sys2Proof.Machine

/-! ## Room on a port's list (R164) -/

/-- The list of fitted port n has room for k frames beside the place kept for a reply. -/
def State.roomAt (s : State) (n : LaneIx) (k : Nat) : Prop :=
  s.isFitted n = true ∧ (s.link (.screen n)).tx.length + s.keptOn (.screen n) + k ≤ 32

theorem State.roomAt.mono {s : State} {n : LaneIx} {j k : Nat} (h : s.roomAt n k) (hj : j ≤ k) : s.roomAt n j :=
  ⟨h.1, by have := h.2; omega⟩

theorem State.roomAt.congr {s t : State} {n : LaneIx} {k : Nat} (h : s.roomAt n k) (hsupply : t.supply = s.supply)
    (hkept : t.kept = s.kept) (hlink : t.link (.screen n) = s.link (.screen n)) : t.roomAt n k := by
  rw [State.roomAt, State.isFitted, State.keptOn, hsupply, hkept, hlink]
  exact h

theorem notify_of_roomAt {s : State} {n : LaneIx} {k : Nat} (h : s.roomAt n (k + 1)) (x : Notice) :
    s.notify n x = s.place (.screen n) (.notice x) := by
  refine notify_of_room s n x h.1 (decide_eq_true ?_)
  have := h.2
  simp only [State.keptOn] at this
  simp only [Config.txPlaces]
  omega

theorem roomAt_place {s : State} {n : LaneIx} {k : Nat} (h : s.roomAt n (k + 1)) (f : TxFrame) :
    (s.place (.screen n) f).roomAt n k := by
  refine ⟨h.1, ?_⟩
  have hroom := h.2
  rw [link_place_same]
  simp only [State.keptOn, place_kept, List.length_append, List.length_singleton] at hroom ⊢
  omega

theorem roomAt_of_places {s : State} {n : LaneIx} {k : Nat} (hf : s.isFitted n = true)
    (hplaces : (s.link (.screen n)).tx.length + k ≤ 32) (hkept : s.kept = none) : s.roomAt n k :=
  ⟨hf, by rw [State.keptOn, hkept]; simpa using hplaces⟩

/-- Work on a request finds room for all it sends beside the reply's place (R163). -/
theorem roomAt_holding {s : State} {n : LaneIx} {k : Nat} (hf : s.isFitted n = true)
    (hplaces : (s.link (.screen n)).tx.length + k + 1 ≤ 32) : (s.holding (.screen n)).roomAt n k := by
  refine ⟨hf, ?_⟩
  rw [link_holding, State.keptOn, holding_kept, if_pos rfl]
  omega

theorem fitted_of_ready {s : State} {n : LaneIx} (h : s.ready (.screen n)) : s.isFitted n = true := by
  have hl := h.1
  rw [State.listening, Bool.and_eq_true] at hl
  exact hl.2

theorem roomAt_of_ready {s : State} {n : LaneIx} (h : s.ready (.screen n)) : (s.holding (.screen n)).roomAt n 7 :=
  roomAt_holding (fitted_of_ready h) (by have : (s.link (.screen n)).tx.length + 8 ≤ 32 := h.2.2.1; omega)

/-! ## What another lane's turn leaves to lane n -/

/-- Lane n, its items and its port stay, and nothing but frames and flags is added elsewhere. -/
structure Stays (n : LaneIx) (s t : State) : Prop extends Sends s t where
  lane : t.lane n = s.lane n
  rel : t.rel n = s.rel n
  port : t.port n = s.port n

theorem Stays.refl (n : LaneIx) (s : State) : Stays n s s := ⟨Sends.refl s, rfl, rfl, rfl⟩

theorem Stays.trans {n : LaneIx} {s t u : State} (h : Stays n s t) (k : Stays n t u) : Stays n s u :=
  ⟨h.toSends.trans k.toSends, k.lane.trans h.lane, k.rel.trans h.rel, k.port.trans h.port⟩

theorem Stays.running {n : LaneIx} {s t : State} (h : Stays n s t) : t.running = s.running := by
  rw [State.running, State.running, h.supply]

/-- Of every key's record, too, all but openings and mark stays: what another lane's turn leaves to lane n. -/
structure Away (n : LaneIx) (s t : State) : Prop extends Stays n s t where
  key : ∀ slot, (t.key slot).map Key.settled = (s.key slot).map Key.settled

theorem Away.refl (n : LaneIx) (s : State) : Away n s s := ⟨Stays.refl n s, fun _ => rfl⟩

theorem Away.trans {n : LaneIx} {s t u : State} (h : Away n s t) (k : Away n t u) : Away n s u :=
  ⟨h.toStays.trans k.toStays, fun i => (k.key i).trans (h.key i)⟩

theorem Local.away {n m : LaneIx} {s t : State} (h : Local m s t) (hs : Sends s t) (hm : m ≠ n) : Away n s t :=
  ⟨⟨hs, h.lane n hm.symm, h.rel n hm.symm, h.port n hm.symm⟩, h.key⟩

/-! ## The end of a show -/

/-- The notice of a show's end (R78). -/
def endNotice (l : Lane) (a : ActiveReel) (reason : ShowReason) (t : Option Nat) : TxFrame :=
  .notice (.showEnded a.tag a.serial reason a.r (l.pending.map (fun p => p.tag)) t)

theorem reportShowEnd_of_bound {n : LaneIx} {l : Lane} {a : ActiveReel} (hactive : l.active = some a) (reason : ShowReason)
    {s : State} (hbound : (s.port n).state.isBound = true) (hroom : s.roomAt n 1) :
    reportShowEnd n l reason s = s.place (.screen n) (endNotice l a reason s.clock.t) := by
  simp only [reportShowEnd, hactive, if_pos hbound]
  exact notify_of_roomAt hroom _

/-- A show ends where the list has a place and the port has room: the grant is withdrawn, WITHDRAW goes out, the lane is IDLE, and
SHOW ENDED goes out, in that order (R77, R135). -/
theorem endShow_of_place {n : LaneIx} {a : ActiveReel} (reason : ShowReason) {s : State} (hactive : (s.lane n).active = some a)
    (hplace : (s.rel n).outstanding.length < 4) (hbound : (s.port n).state.isBound = true) (hroom : s.roomAt n 2) :
    endShow n reason s =
      (((s.setRel n ((s.rel n).withdrawing a (s.lane n).wt)).place (.screen n) (.notice (.withdraw a.serial a.slot))).setLane n
        ((s.lane n).endedIn .idle)).place (.screen n) (endNotice (s.lane n) a reason s.clock.t) := by
  have hlist : ¬ (s.rel n).listFull = true := by rw [Release.listFull_iff]; exact not_not.mpr hplace
  have hwithdraw : withdraw n a s = (s.setRel n ((s.rel n).withdrawing a (s.lane n).wt)).place (.screen n)
      (.notice (.withdraw a.serial a.slot)) :=
    notify_of_roomAt (hroom.congr (setRel_supply _ _ _) (setRel_kept _ _ _) (link_setRel _ _ _ _)) _
  have hroom' : ((s.setRel n ((s.rel n).withdrawing a (s.lane n).wt)).place (.screen n)
      (.notice (.withdraw a.serial a.slot))).roomAt n 1 :=
    roomAt_place (hroom.congr (setRel_supply _ _ _) (setRel_kept _ _ _) (link_setRel _ _ _ _)) _
  simp only [endShow, endShowWith, hactive, if_neg hlist, id_eq, hwithdraw, dropShow_eq]
  rw [reportShowEnd_of_bound hactive]
  · simp
  · simpa [State.place, State.setLink] using hbound
  · exact hroom'.congr (setLane_supply _ _ _) (setLane_kept _ _ _) (link_setLane _ _ _ _)

/-- Lane n's show on reel `a` is over: `s` is the part as it stood, `u` after it, and `l` the lane as it stood (R77, R135, R144). -/
structure ShowOver (s u : State) (n : LaneIx) (l : Lane) (a : ActiveReel) (reason : ShowReason) : Prop where
  lane : u.lane n = l.endedIn (s.endedState n)
  withdrawn : (s.rel n).outstanding.length < 4 → u.rel n = (s.rel n).withdrawing a l.wt
  said : (s.rel n).outstanding.length < 4 → (s.port n).state.isBound = true → s.roomAt n 2 →
    (u.link (.screen n)).tx = (s.link (.screen n)).tx ++ [.notice (.withdraw a.serial a.slot), endNotice l a reason s.clock.t]
  kept : 4 ≤ (s.rel n).outstanding.length → u.rel n = (s.rel n).cancelled
  flagged : 4 ≤ (s.rel n).outstanding.length → u.sticky.getLsbD EventKind.laneQuarantined.code = true
  told : 4 ≤ (s.rel n).outstanding.length → (s.port n).state.isBound = true → s.roomAt n 2 →
    (u.link (.screen n)).tx = (s.link (.screen n)).tx ++ [endNotice l a .quarantine s.clock.t]

theorem quarantine_of_running {n : LaneIx} (cause : QuarantineCause) {s : State} (h : (s.lane n).state.running = true) :
    quarantine n cause s
      = recordQuarantine n cause (reportShowEnd n (s.lane n) .quarantine (s.setLane n ((s.lane n).endedIn .quarantine))) := by
  have hst : (s.lane n).state ≠ .quarantine := fun hq => by rw [hq] at h; exact absurd h (by decide)
  rw [quarantine, if_neg hst]
  simp only [h, if_true, dropShow_eq]

theorem tx_recordQuarantine (n m : LaneIx) (cause : QuarantineCause) (s : State) :
    (recordQuarantine n cause s).link (.screen m) = s.link (.screen m) := by
  change ((recordQuarantine n cause s).port m).link = (s.port m).link
  rw [recordQuarantine, port_raise, cancelDeadlines_eq, port_setRel]

/-- Every end of a running show with a withdrawal (R77). -/
theorem endShow_over {n : LaneIx} {a : ActiveReel} (reason : ShowReason) {s : State} (hrunning : s.running = true)
    (hrun : (s.lane n).state.running = true) (hactive : (s.lane n).active = some a) :
    ShowOver s (endShow n reason s) n (s.lane n) a reason := by
  have hst : (s.lane n).state ≠ .quarantine := fun hq => by rw [hq] at hrun; exact absurd hrun (by decide)
  have hsome : (s.lane n).active.isSome = true := by rw [hactive]; rfl
  have hfull (h : 4 ≤ (s.rel n).outstanding.length) : endShow n reason s
      = recordQuarantine n .listFull (reportShowEnd n (s.lane n) .quarantine (s.setLane n ((s.lane n).endedIn .quarantine))) := by
    have hlist : (s.rel n).listFull = true := by rw [Release.listFull_iff]; exact Nat.not_lt.mpr h
    simp only [endShow, endShowWith, hactive, if_pos hlist, id_eq]
    exact quarantine_of_running .listFull hrun
  refine
    { lane := lane_endShowWith (Spares.id n) hsome hst
      withdrawn := rel_endShowWith_of_place (Spares.id n) hactive
      said := fun hplace hbound hroom => ?said
      kept := rel_endShowWith_of_full (Spares.id n) hsome hst
      flagged := fun h => ?flagged
      told := fun h hbound hroom => ?told }
  case said =>
    rw [endShow_of_place reason hactive hplace hbound hroom, link_place_same, link_setLane, link_place_same, link_setRel]
    simp
  case flagged =>
    rw [hfull h]
    refine raise_sticky _ _ ?_
    rw [State.running, cancelDeadlines_eq, setRel_supply, (reportShowEnd_quiet _ _ _ _).supply, setLane_supply]
    exact hrunning
  case told =>
    have hroom' : (s.setLane n ((s.lane n).endedIn .quarantine)).roomAt n 1 :=
      (hroom.mono (by decide)).congr (setLane_supply _ _ _) (setLane_kept _ _ _) (link_setLane _ _ _ _)
    rw [hfull h, tx_recordQuarantine, reportShowEnd_of_bound (s := s.setLane n ((s.lane n).endedIn .quarantine)) hactive .quarantine hbound hroom',
      link_place_same, link_setLane]
    rfl

/-- The part before the end may differ in what an end of a show does not read. -/
theorem ShowOver.of_start {s s1 u : State} {n : LaneIx} {l l1 : Lane} {a : ActiveReel} {reason : ShowReason}
    (h : ShowOver s1 u n l1 a reason) (hrel : s1.rel n = s.rel n) (hport : s1.port n = s.port n) (hsupply : s1.supply = s.supply)
    (hkept : s1.kept = s.kept) (hclock : s1.clock = s.clock)
    (hlane : ∀ st, l1.endedIn st = l.endedIn st := by intro st; rfl) (hpending : l1.pending = l.pending := by rfl) :
    ShowOver s u n l a reason := by
  have hlink : s1.link (.screen n) = s.link (.screen n) := congrArg ScreenPort.link hport
  have hwt : (l1.endedIn .idle).wt = (l.endedIn .idle).wt := congrArg Lane.wt (hlane .idle)
  replace hwt : l1.wt = l.wt := hwt
  have hended : s1.endedState n = s.endedState n := by rw [State.endedState, hrel]
  have hnotice (r : ShowReason) : endNotice l1 a r s1.clock.t = endNotice l a r s.clock.t := by
    rw [endNotice, endNotice, hpending, hclock]
  have hroom (k : s.roomAt n 2) : s1.roomAt n 2 := k.congr hsupply hkept hlink
  refine ⟨?_, fun h4 => ?_, fun h4 hb hr => ?_, fun h4 => ?_, fun h4 => ?_, fun h4 hb hr => ?_⟩
  · rw [h.lane, hlane, hended]
  · rw [h.withdrawn (hrel ▸ h4), hrel, hwt]
  · rw [h.said (hrel ▸ h4) (hport ▸ hb) (hroom hr), hlink, hnotice]
  · rw [h.kept (hrel ▸ h4), hrel]
  · exact h.flagged (hrel ▸ h4)
  · rw [h.told (hrel ▸ h4) (hport ▸ hb) (hroom hr), hlink, hnotice]

/-- What other lanes' turns do before and after leaves the end of lane n's show as it is. -/
theorem ShowOver.between {s s1 u t : State} {n : LaneIx} {l : Lane} {a : ActiveReel} {reason : ShowReason}
    (h : ShowOver s1 u n l a reason) (before : Stays n s s1) (after : Stays n u t) : ShowOver s t n l a reason := by
  have h' := h.of_start (s := s) (l := l) before.rel before.port before.supply before.kept before.clock
  have hlink : t.link (.screen n) = u.link (.screen n) := congrArg ScreenPort.link after.port
  exact ⟨after.lane.trans h'.lane, fun h4 => after.rel.trans (h'.withdrawn h4), fun h4 hb hr => hlink ▸ h'.said h4 hb hr,
    fun h4 => after.rel.trans (h'.kept h4), fun h4 => after.sticky _ (h'.flagged h4), fun h4 hb hr => hlink ▸ h'.told h4 hb hr⟩

/-- The end of a show outside requests, as the obligations say it. -/
theorem ShowOver.showEnds {s u : State} {n : LaneIx} {l : Lane} {a : ActiveReel} {reason : ShowReason}
    (h : ShowOver s u n l a reason) : s.showEnds u n l a reason [] := by
  refine ⟨h.lane, fun h4 => ⟨h.withdrawn h4, fun hsends => ?_⟩, fun h4 => ⟨h.kept h4, h.flagged h4, fun hsends => ?_⟩⟩
  all_goals
    obtain ⟨hf, hb, hplaces, hkept⟩ := hsends
    have hroom : s.roomAt n 2 := roomAt_of_places hf hplaces hkept
  · rw [h.said h4 hb hroom, List.append_nil]; rfl
  · rw [h.told h4 hb hroom, List.append_nil]; rfl

/-- The end of a show at a request of lane n's port, the reply behind its notices (R163). -/
theorem ShowOver.showEnds_replyOn {s u : State} {n : LaneIx} {l : Lane} {a : ActiveReel} {reason : ShowReason}
    (h : ShowOver (s.holding (.screen n)) u n l a reason) (tag : Byte) (rp : Reply) :
    s.showEnds (replyOn (.screen n) tag (u, rp)) n l a reason [.reply tag rp] := by
  have hlink : ((replyOn (.screen n) tag (u, rp)).link (.screen n)).tx = (u.link (.screen n)).tx ++ [.reply tag rp] :=
    congrArg Link.tx (link_place_same u (.screen n) (.reply tag rp))
  refine ⟨(lane_replyOn ..).trans h.lane, fun h4 => ⟨(rel_replyOn ..).trans (h.withdrawn h4), fun hsends => ?_⟩,
    fun h4 => ⟨(rel_replyOn ..).trans (h.kept h4), ?_, fun hsends => ?_⟩⟩
  case refine_2 => rw [replyOn_sticky]; exact h.flagged h4
  all_goals
    obtain ⟨hf, hb, hplaces, hkept⟩ := hsends
    have hroom : (s.holding (.screen n)).roomAt n 2 := roomAt_holding hf hplaces
  · rw [hlink, h.said h4 hb hroom]; rfl
  · rw [hlink, h.told h4 hb hroom]; rfl

end Sys2Proof.Machine
end


section
/-! PROOFS. STOP SHOW, HOLD SHOW, RESUME SHOW and the hold limit (R77, R90 to R93, R97, R126). -/

namespace Sys2Proof.Machine

/-! ## Work at one lane -/

/-- Work at lane n alone that writes no key and only sends elsewhere. -/
structure LaneWork (n : LaneIx) (s t : State) : Prop where
  beside : Local n s t
  sends : Sends s t
  keys : t.keys = s.keys

theorem LaneWork.refl (n : LaneIx) (s : State) : LaneWork n s s := ⟨Local.refl n s, Sends.refl s, rfl⟩

theorem LaneWork.trans {n : LaneIx} {s t u : State} (h : LaneWork n s t) (k : LaneWork n t u) : LaneWork n s u :=
  ⟨h.beside.trans k.beside, h.sends.trans k.sends, k.keys.trans h.keys⟩

theorem LaneWork.away {n m : LaneIx} {s t : State} (h : LaneWork m s t) (hm : m ≠ n) : Away n s t := h.beside.away h.sends hm

theorem setLane_work (s : State) (n : LaneIx) (l : Lane) (h : LaneKeeps (s.lane n) l := by exact ⟨rfl, rfl, rfl⟩) :
    LaneWork n s (s.setLane n l) := ⟨setLane_local s n l, setLane_sends s n l h, rfl⟩

theorem notify_work (s : State) (n : LaneIx) (x : Notice) : LaneWork n s (s.notify n x) :=
  ⟨notify_local n s x, notify_sends s n x, notify_keys s n x⟩

theorem endShow_work (n : LaneIx) (reason : ShowReason) (s : State) : LaneWork n s (endShow n reason s) :=
  ⟨endShow_local n reason s, endShow_sends n reason s, (endShow_retains n reason s).keys⟩

theorem LaneWork.rest {n : LaneIx} {s t : State} (h : LaneWork n s t) :
    (∀ m, m ≠ n → t.lane m = s.lane m ∧ t.rel m = s.rel m ∧ t.port m = s.port m) ∧ t.keys = s.keys ∧ s.keepsRest t :=
  ⟨fun m hm => ⟨h.beside.lane m hm, h.beside.rel m hm, h.beside.port m hm⟩, h.keys, h.sends.keepsRest⟩

theorem LaneWork.rest_replyOn {n : LaneIx} {s t : State} (h : LaneWork n (s.holding (.screen n)) t) (hkept : s.kept = none)
    (tag : Byte) (rp : Reply) :
    (∀ m, m ≠ n → (replyOn (.screen n) tag (t, rp)).lane m = s.lane m ∧ (replyOn (.screen n) tag (t, rp)).rel m = s.rel m
        ∧ (replyOn (.screen n) tag (t, rp)).port m = s.port m)
      ∧ (replyOn (.screen n) tag (t, rp)).keys = s.keys ∧ s.keepsRest (replyOn (.screen n) tag (t, rp)) :=
  ⟨fun m hm => ⟨(lane_replyOn ..).trans (h.beside.lane m hm), (rel_replyOn ..).trans (h.beside.rel m hm),
      (port_replyOn_other _ _ _ hm).trans (h.beside.port m hm)⟩,
    (replyOn_keys ..).trans h.keys, replyOn_keepsRest tag rp hkept h.sends⟩

theorem bound_of_readyScreen {s : State} {n : LaneIx} (h : s.readyScreen n) : (s.port n).state.isBound = true := by
  have hb := h.2
  rw [ScreenPort.boundScreen, Bool.and_eq_true] at hb
  exact hb.1

theorem running_of_readyScreen {s : State} {n : LaneIx} (h : s.ready (.screen n)) : s.running = true := by
  have hl := h.1
  rw [State.listening, Bool.and_eq_true] at hl
  exact hl.1

/-! ## STOP SHOW (R90) -/

theorem stopShow_of_running {n : LaneIx} {s : State} (h : (s.lane n).state.running = true) :
    stopShow n s = (endShow n .stopped s, .stopShow .accepted ((endShow n .stopped s).lane n).state) := by
  rw [stopShow, if_pos h]

theorem exec_stopShow {n : LaneIx} {s : State} (tag : Byte) (h : s.readyShow n) :
    exec (.stopShow (.screen n) tag) s = .next (replyOn (.screen n) tag (stopShow n (s.holding (.screen n)))) := by
  have hexec := exec_of_ready (.screen n) tag .stopShow s h.1.1
  change _ = Host.Outcome.next (replyOn _ tag (underEntry n Binding.admitsShow _ (stopShow n) _)) at hexec
  rwa [underEntry_of_readyShow h] at hexec

/-- Settles O35: the end of the show is worked out with room for all it sends. -/
theorem stopShowEndsTheShow : Obligations.StopShowEndsTheShow := by
  intro n tag s h
  have hbound := bound_of_readyScreen h.1
  have hroom := (roomAt_of_ready h.1.1).mono (by decide : 2 ≤ 7)
  have hrunning : s.running = true := running_of_readyScreen h.1.1
  refine ⟨fun a hrun hactive hplace => ⟨_, exec_stopShow tag h, ?_⟩, fun a hrun hactive hfull => ⟨_, exec_stopShow tag h, ?_⟩,
    fun hrest => (exec_stopShow tag h).trans ?_⟩
  · have hover := endShow_over (s := s.holding (.screen n)) .stopped hrunning hrun hactive
    have hwork := endShow_work n .stopped (s.holding (.screen n))
    have hended : (s.holding (.screen n)).endedState n = .idle := if_pos hplace
    have heq := endShow_of_place (s := s.holding (.screen n)) .stopped hactive hplace hbound hroom
    rw [stopShow_of_running (s := s.holding (.screen n)) hrun]
    obtain ⟨hothers, hkeys, hrest⟩ := hwork.rest_replyOn h.1.1.2.2.2 tag
      (.stopShow .accepted ((endShow n .stopped (s.holding (.screen n))).lane n).state)
    refine ⟨?_, ?_, ?_, hothers, hkeys, hrest, ?_, ?_⟩
    · rw [lane_replyOn, hover.lane, hended]; rfl
    · rw [rel_replyOn, hover.withdrawn hplace]; rfl
    · rw [link_replyOn_same, hover.said hplace hbound hroom, hover.lane, hended]; simp [endNotice, Lane.endedIn]
    · rw [replyOn_mgmt_screen, heq, place_mgmt_screen, setLane_mgmt, place_mgmt_screen, setRel_mgmt]; rfl
    · rw [replyOn_sticky, heq, place_sticky, setLane_sticky, place_sticky, setRel_sticky]; rfl
  · have hover := endShow_over (s := s.holding (.screen n)) .stopped hrunning hrun hactive
    have hwork := endShow_work n .stopped (s.holding (.screen n))
    have hended : (s.holding (.screen n)).endedState n = .quarantine := if_neg (Nat.not_lt.mpr hfull)
    rw [stopShow_of_running (s := s.holding (.screen n)) hrun]
    obtain ⟨hothers, hkeys, hrest⟩ := hwork.rest_replyOn h.1.1.2.2.2 tag
      (.stopShow .accepted ((endShow n .stopped (s.holding (.screen n))).lane n).state)
    refine ⟨?_, ?_, ?_, ?_, ?_, ?_, hkeys, hothers, hrest⟩
    · rw [lane_replyOn, hover.lane, hended]; rfl
    · rw [lane_replyOn, hover.lane]; rfl
    · rw [rel_replyOn, hover.kept hfull]; rfl
    · rw [rel_replyOn, hover.kept hfull]; rfl
    · rw [replyOn_sticky]; exact hover.flagged hfull
    · rw [hover.lane, hended]; exact link_replyOn_last ..
  · have hstop : stopShow n (s.holding (.screen n)) = (s.holding (.screen n), .stopShow .wrongState (s.lane n).state) := by
      rw [stopShow, if_neg (by rw [lane_holding, hrest]; exact Bool.false_ne_true), lane_holding]
    rw [hstop]
    exact congrArg _ (replyOn_same (.screen n) tag s _ h.1.1.2.2.2)

/-! ## The re-check of an active reel (R126) -/

/-- The re-check's refusal is that of the first of its steps that fails. -/
theorem recheck_of_refuses {s : State} {a : ActiveReel} {reason : Answer} (h : s.recheckRefuses a reason) :
    recheck a s = some reason := by
  rcases h with ⟨rfl, hlabel⟩ | ⟨k, hk, hlabel, hsteps⟩
  · unfold recheck
    cases hk : s.key a.slot with
    | none => rfl
    | some k => exact if_pos (hlabel k hk)
  · simp only [recheck, show s.key a.slot = some k from hk, hlabel, ne_eq, not_true_eq_false, if_false]
    rcases hsteps with ⟨rfl, hst⟩ | ⟨rfl, hst⟩ | ⟨hrevoked, hexpired, ⟨rfl, htime⟩ | ⟨rfl, htime, hpast⟩⟩
    · rw [if_pos hst]
    · simp [hst]
    · have husable : s.clock.usable = false := by rcases htime with h | h <;> rw [Clock.usable, h] <;> rfl
      simp [hrevoked, hexpired, husable]
    · have husable : s.clock.usable = true := by rcases htime with h | h <;> rw [Clock.usable, h] <;> rfl
      simp [hrevoked, hexpired, husable, hpast]

theorem recheck_of_passes {s : State} {a : ActiveReel} {k : Key} (hk : s.key a.slot = some k) (hlabel : k.label = a.label)
    (hrevoked : k.state ≠ .revoked) (hexpired : k.state ≠ .expired) (husable : s.clock.usable = true)
    (hend : s.clock.now + s.clock.u + a.r ≤ k.na + k.a) : recheck a s = none := by
  simp [recheck, hk, hlabel, hrevoked, hexpired, husable, hend]

/-- The re-check reads the time exactly where it gives no reason of the key (R128). -/
theorem recheckReadsTime_of_refuses {s : State} {a : ActiveReel} {reason : Answer} (h : s.recheckRefuses a reason) :
    recheckReadsTime a s = (reason == .timeUnassured || reason == .runsPast) := by
  rcases h with ⟨rfl, hlabel⟩ | ⟨k, hk, hlabel, hsteps⟩
  · unfold recheckReadsTime
    cases hk : s.key a.slot with
    | none => rfl
    | some k => simp only [beq_eq_false_iff_ne.mpr (hlabel k hk)]; rfl
  · simp only [recheckReadsTime, show s.key a.slot = some k from hk, hlabel]
    rcases hsteps with ⟨rfl, hst⟩ | ⟨rfl, hst⟩ | ⟨hrevoked, hexpired, ⟨rfl, htime⟩ | ⟨rfl, htime, hpast⟩⟩
    · simp [hst]
    · simp [hst]
    · simp [hrevoked, hexpired]
    · simp [hrevoked, hexpired]

/-! ## HOLD SHOW and RESUME SHOW (R91 to R93) -/

theorem exec_holdShow {n : LaneIx} {s : State} (tag : Byte) (h : s.readyShow n) :
    exec (.holdShow (.screen n) tag) s = .next (replyOn (.screen n) tag (holdShow n (s.holding (.screen n)))) := by
  have hexec := exec_of_ready (.screen n) tag .holdShow s h.1.1
  change _ = Host.Outcome.next (replyOn _ tag (underEntry n Binding.admitsShow _ (holdShow n) _)) at hexec
  rwa [underEntry_of_readyShow h] at hexec

theorem exec_resumeShow {n : LaneIx} {s : State} (tag : Byte) (h : s.readyShow n) :
    exec (.resumeShow (.screen n) tag) s = .next (replyOn (.screen n) tag (resumeShow n (s.holding (.screen n)))) := by
  have hexec := exec_of_ready (.screen n) tag .resumeShow s h.1.1
  change _ = Host.Outcome.next (replyOn _ tag (underEntry n Binding.admitsShow _ (resumeShow n) _)) at hexec
  rwa [underEntry_of_readyShow h] at hexec

/-- A lane held by a request or the site (R76, R91). -/
def Lane.heldBy (l : Lane) (screen site : Bool) : Lane :=
  { l with state := .held, screenHold := screen, siteHold := site, holdTimer := some 0, holdLimit := some l.l }

theorem enterHeld_of_limit {n : LaneIx} (screen site : Bool) {s : State} (h : 0 < (s.lane n).l) :
    enterHeld n screen site s = s.setLane n ((s.lane n).heldBy screen site) := by
  simp only [enterHeld, if_neg (Nat.pos_iff_ne_zero.mp h)]
  rfl

theorem enterHeld_of_zero {n : LaneIx} (screen site : Bool) {s : State} (h : (s.lane n).l = 0) :
    enterHeld n screen site s = endShow n .holdLimit (s.setLane n ((s.lane n).heldBy screen site)) := by
  simp only [enterHeld, if_pos h]
  rfl

/-- A hold with L at 0 ends the show (R97). -/
theorem enterHeld_over {n : LaneIx} {a : ActiveReel} (screen site : Bool) {s : State} (hrunning : s.running = true)
    (h : (s.lane n).l = 0) (hactive : (s.lane n).active = some a) :
    ShowOver s (enterHeld n screen site s) n (s.lane n) a .holdLimit := by
  rw [enterHeld_of_zero screen site h]
  have hover := endShow_over (n := n) (a := a) .holdLimit (s := s.setLane n ((s.lane n).heldBy screen site)) hrunning
    (by rw [lane_setLane_same]; rfl) (by rw [lane_setLane_same]; exact hactive)
  rw [lane_setLane_same] at hover
  exact hover.of_start (l := s.lane n) (rel_setLane ..) (port_setLane ..) rfl rfl rfl

theorem enterHeld_work (n : LaneIx) (screen site : Bool) (s : State) : LaneWork n s (enterHeld n screen site s) := by
  by_cases h : (s.lane n).l = 0
  · rw [enterHeld_of_zero screen site h]
    exact (setLane_work s n _).trans (endShow_work n _ _)
  · rw [enterHeld_of_limit screen site (Nat.pos_of_ne_zero h)]
    exact setLane_work s n _

/-- The last hold ends the show where the re-check refuses it (R93). -/
theorem releaseLastHold_over {n : LaneIx} {a : ActiveReel} {reason : Answer} {s : State} (hrunning : s.running = true)
    (hrun : (s.lane n).state.running = true) (hactive : (s.lane n).active = some a) (h : recheck a s = some reason) :
    ShowOver s (releaseLastHold n s) n (s.lane n) a (.refused reason) := by
  simp only [releaseLastHold, hactive, h]
  exact endShow_over _ hrunning hrun hactive

theorem releaseLastHold_of_passes {n : LaneIx} {a : ActiveReel} {s : State} (hactive : (s.lane n).active = some a)
    (h : recheck a s = none) : releaseLastHold n s
      = s.setLane n { s.lane n with state := .playing, holdTimer := none, holdLimit := none } := by
  simp only [releaseLastHold, hactive, h]

theorem releaseLastHold_work (n : LaneIx) (s : State) : LaneWork n s (releaseLastHold n s) := by
  unfold releaseLastHold
  split
  · exact LaneWork.refl n s
  · split
    · exact setLane_work s n _
    · exact endShow_work n _ s

theorem replyOn_setLane {n : LaneIx} (tag : Byte) (s : State) (l : Lane) (rp : Reply) (h : s.kept = none) :
    replyOn (.screen n) tag ((s.holding (.screen n)).setLane n l, rp) = (s.setLane n l).place (.screen n) (.reply tag rp) :=
  replyOn_same (.screen n) tag (s.setLane n l) rp h

theorem holdShow_of_playing {n : LaneIx} {s : State} (h : (s.lane n).state = .playing) :
    holdShow n s = (enterHeld n true false s, holdReply n (enterHeld n true false s)) := by
  simp only [holdShow, h]

theorem resumeShow_of_site {n : LaneIx} {s : State} (hst : (s.lane n).state = .held) (hscreen : (s.lane n).screenHold = true)
    (hsite : (s.lane n).siteHold = true) : resumeShow n s
      = (s.setLane n { s.lane n with screenHold := false }, .resumeShow .notRun .held none none) := by
  simp only [resumeShow, hst, hscreen, hsite, and_self, if_true, lane_setLane_same]

theorem resumeShow_of_last {n : LaneIx} {a : ActiveReel} {s : State} (hst : (s.lane n).state = .held)
    (hscreen : (s.lane n).screenHold = true) (hsite : (s.lane n).siteHold = false) (hactive : (s.lane n).active = some a) :
    resumeShow n s =
      (releaseLastHold n (s.setLane n { s.lane n with screenHold := false }),
        resumeReply n a (s.setLane n { s.lane n with screenHold := false })
          (releaseLastHold n (s.setLane n { s.lane n with screenHold := false }))) := by
  simp only [resumeShow, hst, hscreen, hsite, hactive, and_self, if_true]

/-- Settles O36, state by state. -/
theorem holdAndResumeShow : Obligations.HoldAndResumeShow := by
  constructor
  · intro n tag s h
    have hkept : s.kept = none := h.1.1.2.2.2
    have hexec := exec_holdShow tag h
    refine ⟨fun hst hl => hexec.trans ?playing, fun hst => hexec.trans ?held, fun hrest => hexec.trans ?refused,
      fun a hst hl hactive => ⟨_, hexec, ?ends⟩⟩
    case playing =>
      rw [holdShow_of_playing (s := s.holding (.screen n)) hst, enterHeld_of_limit (s := s.holding (.screen n)) true false hl]
      have hreply : holdReply n ((s.holding (.screen n)).setLane n ((s.lane n).heldBy true false)) = .holdShow true false (some 0) .held := by
        simp only [holdReply, lane_setLane_same, Lane.heldBy]
      rw [lane_holding, hreply]
      exact congrArg _ (replyOn_setLane tag s _ _ hkept)
    case held =>
      have hhold : holdShow n (s.holding (.screen n)) = ((s.holding (.screen n)).setLane n { s.lane n with screenHold := true },
          .holdShow true (s.lane n).siteHold (s.lane n).holdTimer .held) := by
        simp only [holdShow, lane_holding, hst, holdReply, lane_setLane_same]
      rw [hhold]
      exact congrArg _ (replyOn_setLane tag s _ _ hkept)
    case refused =>
      have hhold : holdShow n (s.holding (.screen n)) = (s.holding (.screen n), .plain 0x04 .wrongState) := by
        unfold holdShow
        rw [lane_holding]
        split
        · next hst => rw [hst] at hrest; exact absurd hrest (by decide)
        · next hst => rw [hst] at hrest; exact absurd hrest (by decide)
        all_goals rfl
      rw [hhold]
      exact congrArg _ (replyOn_same (.screen n) tag s _ hkept)
    case ends =>
      have hrun : (s.lane n).state.running = true := by rw [hst]; rfl
      have hover := enterHeld_over (n := n) true false (s := s.holding (.screen n)) (running_of_readyScreen (s := s) h.1.1) hl hactive
      have hreply : holdReply n (enterHeld n true false (s.holding (.screen n)))
          = .holdShow false false none (s.endedState n) := by
        rw [holdReply, hover.lane]; rfl
      rw [holdShow_of_playing (s := s.holding (.screen n)) hst, hreply]
      exact ⟨hover.showEnds_replyOn tag _, (enterHeld_work n true false _).rest_replyOn hkept tag _⟩
  · intro n tag s h
    have hkept : s.kept = none := h.1.1.2.2.2
    have hexec := exec_resumeShow tag h
    refine ⟨fun a k hst hscreen hsite hactive hk hlabel hrevoked hexpired husable hend => hexec.trans ?passes,
      fun hst hscreen hsite => hexec.trans ?site, fun hnot => hexec.trans ?refused,
      fun a reason hst hscreen hsite hactive hrefuses => ⟨_, hexec, ?ends⟩⟩
    case passes =>
      let s1 := (s.holding (.screen n)).setLane n { s.lane n with screenHold := false }
      have hcheck : recheck a s1 = none := recheck_of_passes hk hlabel hrevoked hexpired husable hend
      have hrelease : releaseLastHold n s1 = (s.holding (.screen n)).setLane n { s.lane n with
          state := .playing, screenHold := false, holdTimer := none, holdLimit := none } := by
        rw [releaseLastHold_of_passes (a := a) (by simp only [s1, lane_setLane_same]; exact hactive) hcheck]
        simp only [s1, lane_setLane_same, setLane_setLane]
      have hread : recheckReadsTime a s1 = true := by
        have hk1 : s1.key a.slot = some k := hk
        simp [recheckReadsTime, hk1, hlabel, hrevoked, hexpired]
      have hresume : resumeShow n (s.holding (.screen n)) = (releaseLastHold n s1, resumeReply n a s1 (releaseLastHold n s1)) :=
        resumeShow_of_last hst hscreen hsite hactive
      rw [hresume, resumeReply, hcheck, hread, hrelease]
      simp only [lane_setLane_same, if_true]
      exact congrArg _ (replyOn_setLane tag s _ _ hkept)
    case site =>
      have hresume := resumeShow_of_site (s := s.holding (.screen n)) hst hscreen hsite
      rw [hresume]
      exact congrArg _ (replyOn_setLane tag s _ _ hkept)
    case refused =>
      have hresume : resumeShow n (s.holding (.screen n)) = (s.holding (.screen n), .plain 0x05 .wrongState) := by
        rw [resumeShow, if_neg]
        · rfl
        · rw [lane_holding]
          rintro ⟨h1, h2⟩
          rcases hnot with h3 | h3
          · exact h3 h1
          · rw [h2] at h3; exact absurd h3 (by decide)
      rw [hresume]
      exact congrArg _ (replyOn_same (.screen n) tag s _ hkept)
    case ends =>
      let s1 := (s.holding (.screen n)).setLane n { s.lane n with screenHold := false }
      have hlane : s1.lane n = { s.lane n with screenHold := false } := lane_setLane_same ..
      have hcheck : recheck a s1 = some reason := recheck_of_refuses (s := s1) hrefuses
      have hread := recheckReadsTime_of_refuses (s := s1) hrefuses
      have hover := releaseLastHold_over (s := s1) (n := n) (running_of_readyScreen (s := s) h.1.1) (by rw [hlane, hst]; rfl)
        (by rw [hlane]; exact hactive) hcheck
      rw [hlane] at hover
      replace hover : ShowOver (s.holding (.screen n)) (releaseLastHold n s1) n (s.lane n) a (.refused reason) :=
        hover.of_start (l := s.lane n) (rel_setLane ..) (port_setLane ..) rfl rfl rfl
      have hresume : resumeShow n (s.holding (.screen n)) = (releaseLastHold n s1, resumeReply n a s1 (releaseLastHold n s1)) :=
        resumeShow_of_last hst hscreen hsite hactive
      have hreply : resumeReply n a s1 (releaseLastHold n s1) = .resumeShow (.ran (some reason)) (s.endedState n)
          (if (reason == .timeUnassured || reason == .runsPast) = true then s.clock.t else none)
          (if (reason == .timeUnassured || reason == .runsPast) = true then s.clock.uReported else none) := by
        rw [resumeReply, hcheck, hread, hover.lane]; rfl
      rw [hresume, hreply]
      exact ⟨hover.showEnds_replyOn tag _,
        ((setLane_work _ n _).trans (releaseLastHold_work n _)).rest_replyOn hkept tag _⟩

/-! ## The hold limit (R97) -/

/-- Lane n with its share of the tick taken and its hold timer at the limit. -/
theorem laneTick_of_limit {n : LaneIx} {a : ActiveReel} {timer limit : Nat} {s : State} (hst : (s.lane n).state = .held)
    (hactive : (s.lane n).active = some a) (htimer : (s.lane n).holdTimer = some timer) (hlimit : (s.lane n).holdLimit = some limit)
    (h : limit ≤ timer + 1) : laneTick n s
      = endShow n .holdLimit (s.setLane n { s.lane n with tickOwed := false, holdTimer := some (timer + 1) }) := by
  simp only [laneTick, hst, hactive, htimer, hlimit, if_pos h]

/-- Settles O39: the tick that the lane owes brings its timer to the limit, and the show ends. -/
theorem holdLimitEndsTheShow : Obligations.HoldLimitEndsTheShow := by
  intro n a timer limit s hrunning howed hst hactive htimer hlimit hend
  have hlimit' : (s.lane n).atHoldLimit = true := by
    simp only [Lane.atHoldLimit, hst, htimer, hlimit]
    simpa using hend.ge
  let s1 := s.setLane n { s.lane n with tickOwed := false, holdTimer := some (timer + 1) }
  have hexec : exec (.holdLimit n) s = .next (endShow n .holdLimit s1) := by
    change Host.Outcome.next (takeHoldLimit n s) = _
    rw [takeHoldLimit, hrunning, howed, hlimit', laneTick_of_limit hst hactive htimer hlimit hend.ge]
    rfl
  have hlane : s1.lane n = { s.lane n with tickOwed := false, holdTimer := some (timer + 1) } := lane_setLane_same ..
  have hover := endShow_over (s := s1) (n := n) .holdLimit hrunning (by rw [hlane, hst]; rfl) (by rw [hlane]; exact hactive)
  rw [hlane] at hover
  refine ⟨_, hexec, (hover.of_start (l := s.lane n) (rel_setLane ..) (port_setLane ..) rfl rfl rfl).showEnds, ?_⟩
  exact ((setLane_work s n _).trans (endShow_work n _ s1)).rest

end Sys2Proof.Machine
end


section
/-! PROOFS. The reel boundary (R79, R84 to R88, R123, R131). -/

namespace Sys2Proof.Machine

/-! ## The effects of a check's outcome (R123) -/

theorem noteCheck_of_other {n : LaneIx} {slot : Nat} {report : CheckReport} (s : State) (h : report.refusal ≠ some .oversubscribed) :
    noteCheck n slot report s = s := if_neg h

/-- OVERSUBSCRIBED marks the key and the lane, and sends its event (R123). -/
theorem noteCheck_of_oversubscribed {n : LaneIx} {slot : Nat} {report : CheckReport} {k : Key} {s : State}
    (h : report.refusal = some .oversubscribed) (hk : s.key slot = some k) : noteCheck n slot report s
      = ((s.setKey slot { k with mark := true }).setLane n { s.lane n with mark := true }).raise
        (.oversubscribed slot n (s.holderMap slot) k.c) := by
  rw [noteCheck, if_pos h, noteOversubscribed, hk]
  rfl

theorem port_noteCheck (n m : LaneIx) (slot : Nat) (report : CheckReport) (s : State) :
    (noteCheck n slot report s).port m = s.port m := by
  unfold noteCheck noteOversubscribed
  split
  · split
    · rfl
    · rw [port_raise, port_setLane, port_setKey]
  · rfl

/-- Only a check that has found its slot's key refuses for want of a place (R122). -/
theorem key_of_oversubscribed {n : LaneIx} {slot d : Nat} {label : Label} {s : State}
    (h : (openingCheck false n slot label d s).refusal = some .oversubscribed) : ∃ k, s.key slot = some k := by
  cases hk : s.key slot with
  | some k => exact ⟨k, rfl⟩
  | none =>
    exfalso
    simp only [openingCheck, hk] at h
    split at h <;> exact absurd (Option.some.inj h) (by decide)

/-! ## A grant issued with room for its RELEASE (R131) -/

/-- From `s` to `t` the port of lane n is sent frames, and nothing else is sent or flagged. -/
structure Says (n : LaneIx) (s t : State) (frames : List TxFrame) : Prop where
  tx : (t.link (.screen n)).tx = (s.link (.screen n)).tx ++ frames
  mgmt : t.mgmt = s.mgmt
  sticky : t.sticky = s.sticky
  supply : t.supply = s.supply
  kept : t.kept = s.kept

theorem Says.trans {n : LaneIx} {s t u : State} {f g : List TxFrame} (h : Says n s t f) (k : Says n t u g) : Says n s u (f ++ g) :=
  ⟨by rw [k.tx, h.tx, List.append_assoc], k.mgmt.trans h.mgmt, k.sticky.trans h.sticky, k.supply.trans h.supply,
    k.kept.trans h.kept⟩

theorem Says.setLane (n : LaneIx) (s : State) (l : Lane) : Says n s (s.setLane n l) [] :=
  ⟨(List.append_nil _).symm, rfl, rfl, rfl, rfl⟩

theorem Says.setRel (n : LaneIx) (s : State) (r : Release) : Says n s (s.setRel n r) [] :=
  ⟨(List.append_nil _).symm, rfl, rfl, rfl, rfl⟩

theorem Says.setKey (n : LaneIx) (s : State) (slot : Nat) (k : Key) : Says n s (s.setKey slot k) [] :=
  ⟨(List.append_nil _).symm, rfl, rfl, rfl, rfl⟩

theorem Says.notify {n : LaneIx} {s : State} {k : Nat} (hroom : s.roomAt n (k + 1)) (x : Notice) :
    Says n s (s.notify n x) [.notice x] := by
  rw [notify_of_roomAt hroom]
  exact ⟨congrArg Link.tx (link_place_same ..), place_mgmt_screen .., place_sticky .., place_supply .., place_kept ..⟩

theorem Says.roomAt {n : LaneIx} {s t : State} {frames : List TxFrame} (h : Says n s t frames) {k : Nat}
    (hroom : s.roomAt n (k + frames.length)) : t.roomAt n k := by
  obtain ⟨hf, hplaces⟩ := hroom
  refine ⟨by rw [State.isFitted, h.supply]; exact hf, ?_⟩
  simp only [State.keptOn, h.tx, h.kept, List.length_append] at hplaces ⊢
  omega

theorem issueGrant_says {n : LaneIx} {slot : Nat} {k : Key} (tag : ReelTag) (d : Nat) {s : State} (hk : s.key slot = some k)
    {j : Nat} (hroom : s.roomAt n (j + 1)) : Says n s (issueGrant n slot tag d s).1
      [.notice (.release (s.rel n).takenSerial slot k.label k.material (s.port n).boundIdentity tag d (k.na + k.a))] := by
  have hset := (Says.setRel n s ((s.rel n).granting slot)).trans (Says.setKey n _ slot { k with openings := bump k.openings })
  simp only [issueGrant, hk]
  exact hset.trans (Says.notify (hset.roomAt hroom) _)

/-! ## The tick that a lane owes (R84) -/

/-- A lane whose reel has one second left takes its share of the tick and is at the boundary. -/
def Lane.atZero (l : Lane) (a : ActiveReel) : Lane := { l with tickOwed := false, active := some { a with r := 0 } }

theorem laneTick_of_zero {n : LaneIx} {a : ActiveReel} {s : State} (hst : (s.lane n).state = .playing)
    (hactive : (s.lane n).active = some a) (hr : a.r = 1) :
    laneTick n s = reachBoundary n { a with r := 0 } (s.setLane n ((s.lane n).atZero a)) := by
  simp only [laneTick, Lane.atZero, hst, hactive, hr, Nat.sub_self, if_true]

theorem exec_boundary {n : LaneIx} {a : ActiveReel} {s : State} (hrunning : s.running = true)
    (howed : (s.lane n).tickOwed = true) (hst : (s.lane n).state = .playing) (hactive : (s.lane n).active = some a) (hr : a.r = 1) :
    exec (.boundary n) s = .next (reachBoundary n { a with r := 0 } (s.setLane n ((s.lane n).atZero a))) := by
  have hat : (s.lane n).atBoundary = true := by simp [Lane.atBoundary, hst, hactive, hr]
  change Host.Outcome.next (takeBoundary n s) = _
  rw [takeBoundary, hrunning, howed, hat, laneTick_of_zero hst hactive hr]
  rfl

theorem reachBoundary_of_none {n : LaneIx} {a : ActiveReel} {s : State} (h : (s.lane n).pending = none) :
    reachBoundary n a s = completeShow n s := by
  rw [reachBoundary, h]

theorem reachBoundary_of_continues {n : LaneIx} {a : ActiveReel} {p : PendingReel} {s : State} (h : (s.lane n).pending = some p)
    (hc : continues p a = true) : reachBoundary n a s = continuationBoundary n a p s := by
  simp only [reachBoundary, h, hc, if_true]

theorem reachBoundary_of_new {n : LaneIx} {a : ActiveReel} {p : PendingReel} {s : State} (h : (s.lane n).pending = some p)
    (hc : continues p a = false) : reachBoundary n a s = newGrantBoundary n a p s := by
  simp only [reachBoundary, h, hc, Bool.false_eq_true, if_false]

/-- The end of the show of a lane at its boundary, on the lane as it stood before the tick. -/
theorem endShow_over_atZero {n : LaneIx} {a : ActiveReel} (reason : ShowReason) {s : State} (hrunning : s.running = true)
    (hst : (s.lane n).state = .playing) :
    ShowOver s (endShow n reason (s.setLane n ((s.lane n).atZero a))) n (s.lane n) { a with r := 0 } reason := by
  have hover := endShow_over (s := s.setLane n ((s.lane n).atZero a)) (n := n) (a := { a with r := 0 }) reason hrunning
    (by rw [lane_setLane_same, Lane.atZero, hst]; rfl) (by rw [lane_setLane_same]; rfl)
  rw [lane_setLane_same] at hover
  exact hover.of_start (l := s.lane n) (rel_setLane ..) (port_setLane ..) rfl rfl rfl

theorem atZero_work (n : LaneIx) (a : ActiveReel) (s : State) : LaneWork n s (s.setLane n ((s.lane n).atZero a)) :=
  setLane_work s n _

theorem completeShow_of_idle {n : LaneIx} {s : State} (h : ((endShow n .complete s).lane n).state = .idle) : completeShow n s
    = (endShow n .complete s).setLane n { (endShow n .complete s).lane n with
        shows := bump ((endShow n .complete s).lane n).shows } := by
  simp only [completeShow, h, if_true]

theorem completeShow_of_quarantine {n : LaneIx} {s : State} (h : ((endShow n .complete s).lane n).state = .quarantine) :
    completeShow n s = endShow n .complete s := by
  simp only [completeShow, h, reduceCtorEq, if_false]

/-- Settles O37, by the boundary's pending reel. -/
theorem boundaryCompletesOrContinues : Obligations.BoundaryCompletesOrContinues := by
  refine ⟨?complete, ?goesOn, ?full, ?refused⟩
  case complete =>
    intro n a s hrunning howed hst hactive hr hpending hplace
    refine ⟨_, exec_boundary hrunning howed hst hactive hr, ?_⟩
    have hover := endShow_over_atZero (a := a) .complete hrunning hst
    have hidle : s.endedState n = .idle := if_pos hplace
    have hwork := (atZero_work n a s).trans (endShow_work n .complete _)
    rw [reachBoundary_of_none (by rw [lane_setLane_same]; exact hpending),
      completeShow_of_idle (by rw [hover.lane, hidle]; rfl)]
    obtain ⟨hothers, hkeys, hrest⟩ := (hwork.trans (setLane_work _ n { (endShow n .complete _).lane n with
      shows := bump ((endShow n .complete _).lane n).shows })).rest
    refine ⟨?_, ?_, fun hf hb hplaces hkept => ?_, hothers, hkeys, hrest⟩
    · rw [lane_setLane_same, hover.lane, hidle]; rfl
    · rw [rel_setLane, hover.withdrawn hplace]; rfl
    · rw [link_setLane, hover.said hplace hb (roomAt_of_places hf hplaces hkept), endNotice, hpending]; rfl
  case full =>
    intro n a s hrunning howed hst hactive hr hpending hfull
    refine ⟨_, exec_boundary hrunning howed hst hactive hr, ?_⟩
    have hover := endShow_over_atZero (a := a) .complete hrunning hst
    rw [reachBoundary_of_none (by rw [lane_setLane_same]; exact hpending), completeShow_of_quarantine (by
      rw [hover.lane]; exact if_neg (Nat.not_lt.mpr hfull))]
    exact ⟨hover.showEnds, ((atZero_work n a s).trans (endShow_work n .complete _)).rest⟩
  case goesOn =>
    intro n a p s hrunning howed hst hactive hr hpending htie hslot hlabel hcheck
    refine ⟨_, exec_boundary hrunning howed hst hactive hr, ?_⟩
    have hcontinues : continues p { a with r := 0 } = true := by simp [continues, htie, hslot, hlabel]
    let s1 := (s.setLane n ((s.lane n).atZero a)).setLane n { (s.lane n).atZero a with
      active := some { a with tag := p.tag, r := p.d }, pending := none }
    have heq : continuationBoundary n { a with r := 0 } p (s.setLane n ((s.lane n).atZero a))
        = s1.notify n (.bufferFree .loaded p.tag (some a.serial)) := by
      have hcheck' : (openingCheck true n a.slot p.label p.d (s.setLane n ((s.lane n).atZero a))).refusal = none := hcheck
      simp only [continuationBoundary, hcheck', lane_setLane_same]
      rfl
    rw [reachBoundary_of_continues (by rw [lane_setLane_same]; exact hpending) hcontinues, heq]
    have hset := (atZero_work n a s).trans (setLane_work (s.setLane n ((s.lane n).atZero a)) n { (s.lane n).atZero a with
      active := some { a with tag := p.tag, r := p.d }, pending := none }
      (by rw [lane_setLane_same]; exact ⟨rfl, rfl, rfl⟩))
    obtain ⟨hothers, hkeys, hrest⟩ := (hset.trans (notify_work s1 n (.bufferFree .loaded p.tag (some a.serial)))).rest
    refine ⟨?_, fun m => ?_, fun m hm => (hothers m hm).1, hkeys, hrest, fun hf hplaces hkept => ?_⟩
    · rw [lane_notify, lane_setLane_same]; rfl
    · rw [rel_notify]; rfl
    · have hroom : s1.roomAt n 1 := (roomAt_of_places hf hplaces hkept).congr rfl rfl rfl
      rw [notify_of_roomAt hroom, link_place_same]; rfl
  case refused =>
    intro n a p reason s hrunning howed hst hactive hr hpending htie hslot hlabel hcheck
    refine ⟨_, exec_boundary hrunning howed hst hactive hr, ?_⟩
    have hcontinues : continues p { a with r := 0 } = true := by simp [continues, htie, hslot, hlabel]
    have heq : continuationBoundary n { a with r := 0 } p (s.setLane n ((s.lane n).atZero a))
        = endShow n (.refused reason) (s.setLane n ((s.lane n).atZero a)) := by
      have hcheck' : (openingCheck true n a.slot p.label p.d (s.setLane n ((s.lane n).atZero a))).refusal = some reason := hcheck
      simp only [continuationBoundary, hcheck']
    rw [reachBoundary_of_continues (by rw [lane_setLane_same]; exact hpending) hcontinues, heq]
    exact ⟨(endShow_over_atZero _ hrunning hst).showEnds, ((atZero_work n a s).trans (endShow_work n _ _)).rest⟩

/-! ## A boundary that changes the grant (R88) -/

theorem quarantine_over {n : LaneIx} {a : ActiveReel} {s : State} (hrunning : s.running = true)
    (hrun : (s.lane n).state.running = true) (hactive : (s.lane n).active = some a) (hfull : 4 ≤ (s.rel n).outstanding.length) :
    ShowOver s (quarantine n .listFull s) n (s.lane n) a .quarantine := by
  have heq : quarantine n .listFull s = endShow n .quarantine s := by
    have hlist : (s.rel n).listFull = true := by rw [Release.listFull_iff]; exact Nat.not_lt.mpr hfull
    simp only [endShow, endShowWith, hactive, if_pos hlist, id_eq]
  rw [heq]
  exact endShow_over _ hrunning hrun hactive

theorem newGrantBoundary_of_refused {n : LaneIx} {a : ActiveReel} {p : PendingReel} {s : State} {reason : Answer}
    (h : (openingCheck false n p.slot p.label p.d s).refusal = some reason) : newGrantBoundary n a p s
      = endShow n (.refused reason) (noteCheck n p.slot (openingCheck false n p.slot p.label p.d s) s) := by
  simp only [newGrantBoundary, h]

theorem newGrantBoundary_of_passed {n : LaneIx} {a : ActiveReel} {p : PendingReel} {s : State}
    (h : (openingCheck false n p.slot p.label p.d s).refusal = none) : newGrantBoundary n a p s
      = if (s.rel n).listFull = true then quarantine n .listFull s else changeGrant n a p s := by
  simp only [newGrantBoundary, h, noteCheck_of_pass s h]

theorem withdraw_says {n : LaneIx} (a : ActiveReel) {s : State} {k : Nat} (hroom : s.roomAt n (k + 1)) :
    Says n s (withdraw n a s) [.notice (.withdraw a.serial a.slot)] :=
  have hset := Says.setRel n s ((s.rel n).withdrawing a (s.lane n).wt)
  hset.trans (Says.notify (hset.roomAt hroom) _)

theorem key_withdraw (n : LaneIx) (a : ActiveReel) (s : State) (slot : Nat) : (withdraw n a s).key slot = s.key slot :=
  (withdraw_retains n a s).key slot

/-- A lane with its pending reel loaded under a serial (R88). -/
def Lane.loaded (l : Lane) (p : PendingReel) (serial : Nat) : Lane :=
  { l with active := some { slot := p.slot, label := p.label, tag := p.tag, r := p.d, serial := serial }, pending := none }

/-- A change of the grant, all of whose notices find room: WITHDRAW, RELEASE and BUFFER FREE, in that order (R79, R88). -/
theorem changeGrant_says {n : LaneIx} {a : ActiveReel} {p : PendingReel} {k : Key} {s : State} (hk : s.key p.slot = some k)
    (hroom : s.roomAt n 3) :
    Says n s (changeGrant n a p s)
      [.notice (.withdraw a.serial a.slot),
       .notice (.release ((s.rel n).withdrawing a (s.lane n).wt).takenSerial p.slot k.label k.material (s.port n).boundIdentity p.tag
         p.d (k.na + k.a)),
       .notice (.bufferFree .loaded p.tag (some ((s.rel n).withdrawing a (s.lane n).wt).takenSerial))] := by
  have hwithdraw := withdraw_says a (k := 2) hroom
  have hissue := issueGrant_says p.tag p.d (s := withdraw n a s) (n := n) (j := 1) ((key_withdraw n a s p.slot).trans hk)
    (hwithdraw.roomAt hroom)
  have hid : ((withdraw n a s).port n).boundIdentity = (s.port n).boundIdentity := by
    rw [ScreenPort.boundIdentity, ScreenPort.boundIdentity, portState_withdraw]
  rw [rel_withdraw, hid] at hissue
  rw [changeGrant_eq]
  have hset := (hwithdraw.trans hissue).trans
    (Says.setLane n _ ((s.lane n).loaded p ((s.rel n).withdrawing a (s.lane n).wt).takenSerial))
  exact hset.trans (Says.notify (k := 0) (hset.roomAt hroom) _)

theorem lane_changeGrant (n : LaneIx) (a : ActiveReel) (p : PendingReel) (s : State) :
    (changeGrant n a p s).lane n = (s.lane n).loaded p ((s.rel n).withdrawing a (s.lane n).wt).takenSerial := by
  rw [changeGrant_eq, lane_notify, lane_setLane_same]
  rfl

theorem rel_changeGrant (n : LaneIx) (a : ActiveReel) (p : PendingReel) (s : State) :
    (changeGrant n a p s).rel n = ((s.rel n).withdrawing a (s.lane n).wt).granting p.slot := by
  rw [changeGrant_eq]
  dsimp only
  rw [rel_notify, rel_setLane, rel_issueGrant, rel_withdraw]

theorem key_issueGrant {n : LaneIx} {slot : Nat} {k : Key} (tag : ReelTag) (d : Nat) {s : State} (hk : s.key slot = some k) (i : Nat) :
    (issueGrant n slot tag d s).1.key i = (s.setKey slot { k with openings := bump k.openings }).key i := by
  simp only [issueGrant, hk, key_notify]
  rfl

theorem key_changeGrant {n : LaneIx} {a : ActiveReel} {p : PendingReel} {k : Key} {s : State} (hk : s.key p.slot = some k) (i : Nat) :
    (changeGrant n a p s).key i = (s.setKey p.slot { k with openings := bump k.openings }).key i := by
  have hissue := key_issueGrant (n := n) p.tag p.d ((key_withdraw n a s p.slot).trans hk) i
  rw [changeGrant_eq]
  dsimp only
  rw [key_notify]
  refine hissue.trans ?_
  by_cases hi : i = p.slot
  · rw [hi, key_setKey_same, key_setKey_same]
  · rw [key_setKey_other _ _ hi, key_setKey_other _ _ hi, key_withdraw]

theorem changeGrant_local (n : LaneIx) (a : ActiveReel) (p : PendingReel) (s : State) : Local n s (changeGrant n a p s) := by
  rw [changeGrant_eq]
  exact (((withdraw_local n a s).trans (issueGrant_local n _ _ _ _)).trans (setLane_local _ n _)).trans (notify_local n _ _)

theorem boundIdentity_of_bound {p : ScreenPort} {identity : Identity} (h : p.state = .bound identity) : p.boundIdentity = identity := by
  rw [ScreenPort.boundIdentity, h]

/-- The refusal of a boundary's new grant, its check's effects before the end of the show (R88, R123). -/
theorem newGrantBoundary_over {n : LaneIx} {a : ActiveReel} {p : PendingReel} {reason : Answer} {s : State}
    (hrunning : s.running = true) (hst : (s.lane n).state = .playing)
    (hcheck : (openingCheck false n p.slot p.label p.d s).refusal = some reason) :
    ShowOver s (newGrantBoundary n { a with r := 0 } p (s.setLane n ((s.lane n).atZero a))) n
      { s.lane n with mark := (s.lane n).mark || reason == .oversubscribed } { a with r := 0 } (.refused reason) := by
  let report := openingCheck false n p.slot p.label p.d s
  let s1 := s.setLane n ((s.lane n).atZero a)
  have hlane1 : s1.lane n = (s.lane n).atZero a := lane_setLane_same ..
  have hlane : (noteCheck n p.slot report s1).lane n
      = { (s.lane n).atZero a with mark := (s.lane n).mark || reason == .oversubscribed } := by
    by_cases hover : reason = .oversubscribed
    · subst hover
      obtain ⟨k, hk⟩ := key_of_oversubscribed hcheck
      rw [noteCheck_of_oversubscribed (s := s1) hcheck hk, lane_raise, lane_setLane_same, hlane1]
      simp
    · rw [noteCheck_of_other s1 (by rw [hcheck]; exact fun h => hover (Option.some.inj h)), hlane1]
      simp [hover, Lane.atZero]
  have hsends := noteCheck_sends n p.slot report s1
  have hover := endShow_over (s := noteCheck n p.slot report s1) (n := n) (a := { a with r := 0 }) (.refused reason)
    (by rw [State.running, hsends.supply]; exact hrunning) (by rw [hlane]; exact congrArg LaneState.running hst) (by rw [hlane]; rfl)
  rw [hlane] at hover
  rw [newGrantBoundary_of_refused (s := s.setLane n ((s.lane n).atZero a)) hcheck]
  refine hover.of_start ?_ ?_ hsends.supply hsends.kept hsends.clock (fun _ => rfl) rfl
  · rw [rel_noteCheck]; rfl
  · rw [port_noteCheck]; rfl

/-- Settles O38, by the outcome of the check and the list of withdrawals. -/
theorem boundaryChangesTheGrant : Obligations.BoundaryChangesTheGrant := by
  refine ⟨?granted, ?full, ?refused⟩
  case granted =>
    intro n a p k identity s hrunning howed hst hactive hr hpending hnew hk hcheck hplace hf hport hplaces hkept
    let s1 := s.setLane n ((s.lane n).atZero a)
    let a0 : ActiveReel := { a with r := 0 }
    have hlane1 : s1.lane n = (s.lane n).atZero a := lane_setLane_same ..
    have hlist : ¬ (s1.rel n).listFull = true := by rw [Release.listFull_iff]; exact not_not.mpr hplace
    have hboundary : reachBoundary n a0 s1 = changeGrant n a0 p s1 := by
      rw [reachBoundary_of_new (a := a0) (by rw [hlane1]; exact hpending) hnew, newGrantBoundary_of_passed (s := s1) hcheck, if_neg hlist]
    have hexec := exec_boundary hrunning howed hst hactive hr
    have hroom : s1.roomAt n 3 := (roomAt_of_places hf hplaces hkept).congr rfl rfl rfl
    have hsays := changeGrant_says (a := a0) (p := p) (k := k) (s := s1) (n := n) hk hroom
    have hlocal := (setLane_local s n ((s.lane n).atZero a)).trans (changeGrant_local n a0 p s1)
    have hsends := (setLane_sends s n ((s.lane n).atZero a)).trans (changeGrant_sends n a0 p s1)
    have hserial : ((s1.rel n).withdrawing a0 (s1.lane n).wt).takenSerial
        = ((s.rel n).withdrawing a (s.lane n).wt).takenSerial := by rw [hlane1]; rfl
    rw [hserial] at hsays
    refine ⟨changeGrant n a0 p s1, _, _, hexec.trans (congrArg _ hboundary), rfl, rfl, ?_, ?_, ?_, fun other hother => ?_, ?_,
      fun m hm => ⟨hlocal.lane m hm, hlocal.rel m hm⟩, hsends.keepsRest, hsays.mgmt, hsays.sticky⟩
    · rw [lane_changeGrant, hserial, hlane1]; rfl
    · rw [rel_changeGrant, hlane1]; rfl
    · rw [key_changeGrant (s := s1) hk, key_setKey_same]; rfl
    · rw [key_changeGrant (s := s1) hk, key_setKey_other _ _ hother]; rfl
    · rw [hsays.tx, ← boundIdentity_of_bound hport]; rfl
  case full =>
    intro n a p s hrunning howed hst hactive hr hpending hnew hcheck hfull
    let s1 := s.setLane n ((s.lane n).atZero a)
    let a0 : ActiveReel := { a with r := 0 }
    have hlane1 : s1.lane n = (s.lane n).atZero a := lane_setLane_same ..
    have hlist : (s1.rel n).listFull = true := by rw [Release.listFull_iff]; exact Nat.not_lt.mpr hfull
    have hboundary : reachBoundary n a0 s1 = quarantine n .listFull s1 := by
      rw [reachBoundary_of_new (a := a0) (by rw [hlane1]; exact hpending) hnew, newGrantBoundary_of_passed (s := s1) hcheck, if_pos hlist]
    have hover := quarantine_over (s := s1) (n := n) (a := a0) hrunning (by rw [hlane1, Lane.atZero, hst]; rfl)
      (by rw [hlane1]; rfl) hfull
    rw [hlane1] at hover
    refine ⟨_, (exec_boundary hrunning howed hst hactive hr).trans (congrArg _ hboundary),
      (hover.of_start (l := s.lane n) rfl rfl rfl rfl rfl).showEnds, ?_⟩
    exact ((atZero_work n a s).trans ⟨quarantine_local n _ s1, quarantine_sends n _ s1, (quarantine_retains n _ s1).keys⟩).rest
  case refused =>
    intro n a p reason s hrunning howed hst hactive hr hpending hnew hcheck
    let s1 := s.setLane n ((s.lane n).atZero a)
    let a0 : ActiveReel := { a with r := 0 }
    let s2 := noteCheck n p.slot (openingCheck false n p.slot p.label p.d s) s1
    have hlane1 : s1.lane n = (s.lane n).atZero a := lane_setLane_same ..
    have hboundary : reachBoundary n a0 s1 = newGrantBoundary n a0 p s1 :=
      reachBoundary_of_new (by rw [hlane1]; exact hpending) hnew
    have heq : newGrantBoundary n a0 p s1 = endShow n (.refused reason) s2 := newGrantBoundary_of_refused (s := s1) hcheck
    have hend := endShow_work n (.refused reason) s2
    have hlocal := ((setLane_local s n ((s.lane n).atZero a)).trans (noteCheck_local n p.slot _ s1)).trans hend.beside
    have hsends := ((setLane_sends s n ((s.lane n).atZero a)).trans (noteCheck_sends n p.slot _ s1)).trans hend.sends
    have hkeys (i : Nat) : (endShow n (.refused reason) s2).key i = s2.key i := (endShow_retains n _ s2).key i
    refine ⟨_, (exec_boundary hrunning howed hst hactive hr).trans (congrArg _ hboundary),
      (newGrantBoundary_over hrunning hst hcheck).showEnds, ?_⟩
    rw [heq]
    refine ⟨fun hother => ?_, fun k hover hk => ?_, fun m hm => ⟨hlocal.lane m hm, hlocal.rel m hm, hlocal.port m hm⟩,
      hsends.keepsRest⟩
    · have hs2 : s2 = s1 := noteCheck_of_other s1 (by rw [hcheck]; exact fun h => hother (Option.some.inj h))
      rw [hend.keys, hs2]
      rfl
    · subst hover
      have hs2 := noteCheck_of_oversubscribed (n := n) (s := s1) hcheck hk
      refine ⟨?_, fun other hother => ?_, ?_, fun hmask hplaces hkept => ?_⟩
      · rw [hkeys]
        simp only [s2, hs2]
        rw [key_raise]
        exact key_setKey_same ..
      · rw [hkeys]
        simp only [s2, hs2]
        rw [key_raise]
        exact key_setKey_other _ _ hother
      · refine hend.sends.sticky _ ?_
        simp only [s2, hs2]
        exact raise_sticky _ _ hrunning
      · obtain ⟨notices, htx, -⟩ := (hend.sends.link .mgmt).tx
        refine ⟨notices.map TxFrame.notice, ?_⟩
        refine Eq.trans ?_ htx.symm
        congr 1
        have hroom : s1.hasRoom .mgmt = true := by
          refine decide_eq_true ?_
          rw [show s1.kept = none from hkept]
          exact hplaces
        have hraise := raise_of_room ((s1.setKey p.slot { k with mark := true }).setLane n { s1.lane n with mark := true })
          (.oversubscribed p.slot n (s1.holderMap p.slot) k.c) hrunning hroom
        change _ = s2.mgmt.tx
        simp only [s2, hs2]
        rw [hraise]
        change _ = (if s.mask.getLsbD EventKind.oversubscribed.code = true then _ else _ : Link).tx
        rw [if_pos hmask]
        rfl

end Sys2Proof.Machine
end


section
/-! PROOFS. QUEUE REEL in its lane states (R80 to R82, R95, R123, R131). -/

namespace Sys2Proof.Machine

theorem exec_queueReel {n : LaneIx} {s : State} (tag : Byte) (slot : BitVec 16) (label : Label) (d : BitVec 16) (tie : Bool)
    (reelTag : ReelTag) (h : s.readyShow n) : exec (.queueReel (.screen n) tag slot label d tie reelTag) s
      = .next (replyOn (.screen n) tag (queueReel n slot.toNat label d.toNat tie reelTag (s.holding (.screen n)))) := by
  have hexec := exec_of_ready (.screen n) tag (.queueReel slot label d tie reelTag) s h.1.1
  change _ = Host.Outcome.next (replyOn _ tag (underEntry n Binding.admitsShow _ (queueReel n slot.toNat label d.toNat tie reelTag) _))
    at hexec
  rwa [underEntry_of_readyShow h] at hexec

section requests

variable {n : LaneIx} {slot d : Nat} {label : Label} {tie : Bool} {tag : ReelTag} {s : State}

theorem queueReel_badField (h : 512 ≤ slot ∨ d = 0 ∨ 14400 < d) :
    queueReel n slot label d tie tag s = (s, queueReply n .badField 0 0 none s) := by
  by_cases hslot : slot < 512
  · have hd : d < 1 ∨ 14400 < d := by omega
    simp only [queueReel, slotInRange, hslot, decide_true, Bool.not_true, Bool.false_eq_true, if_false, if_pos hd]
  · simp only [queueReel, slotInRange, hslot, decide_false, Bool.not_false, if_true]

/-- A QUEUE REEL whose slot and D are in range goes by the lane's state (R80). -/
theorem queueReel_of_range (hslot : slot < 512) (h1 : 1 ≤ d) (h2 : d ≤ 14400) : queueReel n slot label d tie tag s =
    match (s.lane n).state with
    | .idle => newStart n slot label d tag s
    | .playing | .held => storePending n { slot := slot, label := label, d := d, tie := tie, tag := tag } s
    | .offline | .clearing | .quarantine => (s, queueReply n .laneUnavailable 0 0 none s) := by
  have hd : ¬ (d < 1 ∨ 14400 < d) := by omega
  simp only [queueReel, slotInRange, hslot, decide_true, Bool.not_true, Bool.false_eq_true, if_false, if_neg hd] <;> rfl

theorem newStart_of_refused {reason : Answer} (h : (openingCheck false n slot label d s).refusal = some reason) :
    newStart n slot label d tag s = (noteCheck n slot (openingCheck false n slot label d s) s,
      queueReply n reason 0 0 (some (openingCheck false n slot label d s))
        (noteCheck n slot (openingCheck false n slot label d s) s)) := by
  simp only [newStart, h]

end requests

/-- A lane that starts a reel under a serial (R81). -/
def Lane.starting (l : Lane) (slot : Nat) (label : Label) (tag : ReelTag) (d serial : Nat) : Lane :=
  { l with state := .playing, active := some { slot := slot, label := label, tag := tag, r := d, serial := serial } }

/-- The part with a new start made, before the site hold is looked at (R81). -/
def startReel (n : LaneIx) (slot : Nat) (label : Label) (d : Nat) (tag : ReelTag) (s : State) : State :=
  let granted := (issueGrant n slot tag d s).1
  granted.setLane n ((granted.lane n).starting slot label tag d (s.rel n).takenSerial)

theorem lane_startReel (n : LaneIx) (slot : Nat) (label : Label) (d : Nat) (tag : ReelTag) (s : State) :
    (startReel n slot label d tag s).lane n = (s.lane n).starting slot label tag d (s.rel n).takenSerial := by
  rw [startReel, lane_setLane_same, lane_issueGrant]

theorem newStart_of_passed {n : LaneIx} {slot d : Nat} {label : Label} {tag : ReelTag} {s : State}
    (h : (openingCheck false n slot label d s).refusal = none) : newStart n slot label d tag s =
      let started := startReel n slot label d tag s
      let held := if s.siteHold = true then enterHeld n false true started else started
      (held, queueReply n .accepted (s.rel n).takenSerial 0 (some (openingCheck false n slot label d s)) held) := by
  have hhold : (startReel n slot label d tag s).siteHold = s.siteHold := (issueGrant_sends n slot tag d s).siteHold
  have heq : newStart n slot label d tag s =
      let started := startReel n slot label d tag s
      let held := if started.siteHold = true then enterHeld n false true started else started
      (held, queueReply n .accepted (s.rel n).takenSerial 0 (some (openingCheck false n slot label d s)) held) := by
    simp only [newStart, h, issueGrant_serial]
    rfl
  rw [heq]
  dsimp only
  rw [hhold]

theorem startReel_says {n : LaneIx} {slot : Nat} {k : Key} (label : Label) (d : Nat) (tag : ReelTag) {s : State}
    (hk : s.key slot = some k) {j : Nat} (hroom : s.roomAt n (j + 1)) : Says n s (startReel n slot label d tag s)
      [.notice (.release (s.rel n).takenSerial slot k.label k.material (s.port n).boundIdentity tag d (k.na + k.a))] :=
  (issueGrant_says tag d hk hroom).trans (Says.setLane n _ _)

theorem startReel_sends (n : LaneIx) (slot : Nat) (label : Label) (d : Nat) (tag : ReelTag) (s : State) :
    Sends s (startReel n slot label d tag s) := by
  refine (issueGrant_sends n slot tag d s).trans (setLane_sends _ n _ ?_)
  rw [lane_issueGrant]
  exact ⟨rfl, rfl, rfl⟩

theorem startReel_local (n : LaneIx) (slot : Nat) (label : Label) (d : Nat) (tag : ReelTag) (s : State) :
    Local n s (startReel n slot label d tag s) := (issueGrant_local n slot tag d s).trans (setLane_local _ n _)

theorem storePending_of_passed {n : LaneIx} {p : PendingReel} {s : State} (h : staticRefusal n p.slot p.label s = none) :
    storePending n p s = (s.setLane n { s.lane n with pending := some p },
      match (s.lane n).pending with
      | none => .queueReel .accepted (s.lane n).state 0 0 none
      | some old => .queueReel .replaced (s.lane n).state 0 old.tag none) := by
  simp only [storePending, h, queueReply]
  cases (s.lane n).pending <;> simp only [lane_setLane_same]

/-- A new start goes on where the site is released or the lane may be held (R81, R95). -/
theorem newStart_lane {n : LaneIx} {slot d : Nat} {label : Label} {tag : ReelTag} {s : State}
    (hlimit : s.siteHold = false ∨ 0 < (s.lane n).l) :
    (if s.siteHold = true then enterHeld n false true (startReel n slot label d tag s) else startReel n slot label d tag s)
      = (startReel n slot label d tag s).setLane n (if s.siteHold = true
          then ((s.lane n).starting slot label tag d (s.rel n).takenSerial).heldBy false true
          else (s.lane n).starting slot label tag d (s.rel n).takenSerial) := by
  have hlane := lane_startReel n slot label d tag s
  by_cases hsite : s.siteHold = true
  · rw [if_pos hsite, if_pos hsite, enterHeld_of_limit _ _ (by
      rw [hlane]; exact hlimit.resolve_left (by rw [hsite]; exact Bool.noConfusion)), hlane]
  · rw [if_neg hsite, if_neg hsite, ← hlane, setLane_self]

/-- Settles O34, by the lane's state and the outcome of the check. -/
theorem queueReelStartsOrStores : Obligations.QueueReelStartsOrStores := by
  refine ⟨?starts, ?refused, ?stores, ?rest⟩
  case starts =>
    intro n tag slot label d tie reelTag k identity s h hst hslot h1 h2 hk hcheck hlimit hport
    have hkept : s.kept = none := h.1.1.2.2.2
    let s0 := s.holding (.screen n)
    let started := startReel n slot.toNat label d.toNat reelTag s0
    let l := (s.lane n).starting slot.toNat label reelTag d.toNat (s.rel n).takenSerial
    let l' := if s.siteHold = true then l.heldBy false true else l
    have hstate : l'.state = if s.siteHold = true then LaneState.held else .playing := by
      simp only [l']; split <;> rfl
    have hqueue : queueReel n slot.toNat label d.toNat tie reelTag s0 = (started.setLane n l',
        .queueReel .accepted (if s.siteHold = true then .held else .playing) (s.rel n).takenSerial 0
          (some (openingCheck false n slot.toNat label d.toNat s))) := by
      rw [queueReel_of_range hslot h1 h2]
      simp only [show (s0.lane n).state = .idle from hst]
      rw [newStart_of_passed (s := s0) hcheck]
      dsimp only
      rw [newStart_lane (s := s0) hlimit, queueReply, lane_setLane_same, ← hstate]
      rfl
    have hsays := (startReel_says label d.toNat reelTag (s := s0) hk (roomAt_of_ready h.1.1)).trans (Says.setLane n _ l')
    have hsends : Sends s0 (started.setLane n l') := by
      refine (startReel_sends n slot.toNat label d.toNat reelTag s0).trans (setLane_sends _ n _ ?_)
      rw [show started.lane n = l from lane_startReel ..]
      simp only [l']
      split <;> exact ⟨rfl, rfl, rfl⟩
    have hlocal := (startReel_local n slot.toNat label d.toNat reelTag s0).trans (setLane_local started n l')
    have hkey (i : Nat) : (started.setLane n l').key i
        = (s0.setKey slot.toNat { k with openings := bump k.openings }).key i := key_issueGrant (s := s0) reelTag d.toNat hk i
    refine ⟨_, (exec_queueReel tag slot label d tie reelTag h).trans (congrArg _ (congrArg _ hqueue)),
      fun hsite => ?_, fun hsite => ?_, ?_, ?_, fun other hother => ?_, ?_, fun m hm => ⟨?_, ?_, ?_⟩,
      replyOn_keepsRest tag _ hkept hsends, ?_, ?_⟩
    · rw [lane_replyOn, lane_setLane_same]
      simp only [l', hsite, Bool.false_eq_true, if_false]
      rfl
    · rw [lane_replyOn, lane_setLane_same]
      simp only [l', hsite, if_true]
      rfl
    · rw [rel_replyOn, rel_setLane]
      simp only [started, startReel]
      rw [rel_setLane, rel_issueGrant]
      rfl
    · rw [key_replyOn, hkey, key_setKey_same]; rfl
    · rw [key_replyOn, hkey, key_setKey_other _ _ hother]; rfl
    · rw [link_replyOn_same, hsays.tx, ← boundIdentity_of_bound hport, List.append_nil, List.append_assoc]; rfl
    · rw [lane_replyOn]; exact hlocal.lane m hm
    · rw [rel_replyOn]; exact hlocal.rel m hm
    · exact (port_replyOn_other _ _ _ hm).trans (hlocal.port m hm)
    · rw [replyOn_mgmt_screen]; exact hsays.mgmt
    · rw [replyOn_sticky]; exact hsays.sticky
  case refused =>
    intro n tag slot label d tie reelTag reason s h hst hslot h1 h2 hcheck cmd replied
    have hkept : s.kept = none := h.1.1.2.2.2
    let s0 := s.holding (.screen n)
    let report := openingCheck false n slot.toNat label d.toNat s
    have hexec := exec_queueReel tag slot label d tie reelTag h
    have hqueue : queueReel n slot.toNat label d.toNat tie reelTag s0 = (noteCheck n slot.toNat report s0,
        queueReply n reason 0 0 (some report) (noteCheck n slot.toNat report s0)) := by
      rw [queueReel_of_range hslot h1 h2]
      simp only [show (s0.lane n).state = .idle from hst]
      exact newStart_of_refused (s := s0) hcheck
    rw [hqueue] at hexec
    refine ⟨fun hother => hexec.trans (congrArg _ ?_), fun k hover hk => ⟨_, hexec, ?_⟩⟩
    · rw [noteCheck_of_other (report := report) s0 (by rw [hcheck]; exact fun h => hother (Option.some.inj h)), queueReply,
        lane_holding, hst]
      exact replyOn_same (.screen n) tag s _ hkept
    · subst hover
      have hnote := noteCheck_of_oversubscribed (n := n) (report := report) (s := s0) hcheck hk
      have hrunning : s0.running = true := running_of_readyScreen (s := s) h.1.1
      have hlane : (noteCheck n slot.toNat report s0).lane n = { s.lane n with mark := true } := by
        rw [hnote, lane_raise, lane_setLane_same]; rfl
      have hlocal := noteCheck_local n slot.toNat report s0
      refine ⟨?_, ?_, ?_, fun other hother => ?_, ?_, fun hmask hplaces => ?_, ?_, fun m hm => ⟨?_, ?_⟩,
        replyOn_keepsRest tag _ hkept (noteCheck_sends n slot.toNat report s0)⟩
      · rw [lane_replyOn, hlane]
      · rw [replyOn_releases, hnote, (raise_quiet _ _).releases]; rfl
      · rw [key_replyOn, hnote, key_raise]; exact key_setKey_same ..
      · rw [key_replyOn, hnote, key_raise]; exact key_setKey_other _ _ hother
      · rw [replyOn_sticky, hnote]; exact raise_sticky _ _ hrunning
      · have hroom : s0.hasRoom .mgmt = true := by
          refine decide_eq_true ?_
          simp only [s0, holding_kept, reduceCtorEq, Option.some.injEq, if_false]
          exact hplaces
        have hraise := raise_of_room ((s0.setKey slot.toNat { k with mark := true }).setLane n { s0.lane n with mark := true })
          (.oversubscribed slot.toNat n (s0.holderMap slot.toNat) k.c) hrunning hroom
        rw [replyOn_mgmt_screen, hnote, hraise]
        exact if_pos hmask
      · rw [link_replyOn_same, queueReply, hlane]
        refine congrArg₂ (· ++ ·) (congrArg Link.tx ?_) (by simp only [hst]; rfl)
        exact congrArg ScreenPort.link (port_noteCheck n n slot.toNat report s0)
      · rw [lane_replyOn]; exact hlocal.lane m hm
      · exact (port_replyOn_other _ _ _ hm).trans (hlocal.port m hm)
  case stores =>
    intro n tag slot label d tie reelTag k s h hst hslot h1 h2 hk hlabel hrevoked hexpired hscreens
    let s0 := s.holding (.screen n)
    have hstatic : staticRefusal n slot.toNat label s0 = none := by
      simp only [staticRefusal, show s0.key slot.toNat = some k from hk]
      exact (keyRefusal_none_iff n k label).mpr ⟨hlabel, hrevoked, hexpired, hscreens⟩
    have hqueue : queueReel n slot.toNat label d.toNat tie reelTag s0
        = storePending n { slot := slot.toNat, label := label, d := d.toNat, tie := tie, tag := reelTag } s0 := by
      rw [queueReel_of_range hslot h1 h2, show (s0.lane n).state = (s.lane n).state from rfl]
      rcases hst with hst | hst <;> simp only [hst]
    refine (exec_queueReel tag slot label d tie reelTag h).trans (congrArg _ ?_)
    rw [hqueue, storePending_of_passed hstatic]
    exact replyOn_setLane tag s _ _ h.1.1.2.2.2
  case rest =>
    intro n tag slot label d tie reelTag s h
    have hkept : s.kept = none := h.1.1.2.2.2
    refine ⟨fun hbad => (exec_queueReel tag slot label d tie reelTag h).trans (congrArg _ ?_),
      fun hslot h1 h2 hst => (exec_queueReel tag slot label d tie reelTag h).trans (congrArg _ ?_)⟩
    · have hbad' : 512 ≤ slot.toNat ∨ d.toNat = 0 ∨ 14400 < d.toNat :=
        hbad.imp_right (Or.imp_left fun h0 => by rw [h0]; rfl)
      rw [queueReel_badField hbad']
      exact replyOn_same (.screen n) tag s _ hkept
    · rw [queueReel_of_range hslot h1 h2, show ((s.holding (.screen n)).lane n).state = (s.lane n).state from rfl]
      rcases hst with hst | hst | hst <;> simp only [hst]
      all_goals rw [queueReply, lane_holding, hst]; exact replyOn_same (.screen n) tag s _ hkept

end Sys2Proof.Machine
end


section
/-! PROOFS. The site hold line at every lane (R93 to R97), and a window evaluation at keys and lanes (R48, R56 to R58, R99). -/

namespace Sys2Proof.Machine

/-! ## One lane's turn -/

/-- Work of every lane in turn: what lane n's own turn finds is what stood before, and what it leaves is what stands after. -/
theorem forLanes_turn {f : LaneIx → State → State} (hf : ∀ n s, LaneWork n s (f n s)) (n : LaneIx) (s : State) :
    ∃ u, Away n s u ∧ Away n (f n u) (s.forLanes f) :=
  forLanes_through n (Away n) (Away.refl n) Away.trans (fun m hm u => (hf m u).away hm) s

theorem forLanes_keys {f : LaneIx → State → State} (hf : ∀ n s, LaneWork n s (f n s)) (s : State) :
    (s.forLanes f).keys = s.keys :=
  forLanes_keep (R := fun s t => t.keys = s.keys) (fun _ => rfl) (fun h k => k.trans h) (fun n s => (hf n s).keys) s

/-- The re-check reads of a key's record only what work elsewhere leaves (R126). -/
theorem Away.recheck {n : LaneIx} {s t : State} (h : Away n s t) (a : ActiveReel) : recheck a t = recheck a s := by
  have hkey := h.key a.slot
  unfold Machine.recheck
  rw [h.clock]
  cases ht : t.key a.slot with
  | none =>
    rw [ht] at hkey
    rw [Option.map_eq_none_iff.mp hkey.symm]
  | some k' =>
    rw [ht] at hkey
    obtain ⟨k, hk, hsettled⟩ := Option.map_eq_some_iff.mp hkey.symm
    rw [hk]
    have field {β : Type} (f : Key → β) (hf : ∀ x, f x.settled = f x) : f k = f k' := by rw [← hf k, hsettled, hf k']
    simp only [field Key.label fun _ => rfl, field Key.state fun _ => rfl, field Key.na fun _ => rfl, field Key.a fun _ => rfl]

/-! ## The assertion (R95, R97) -/

theorem assertAt_work (n : LaneIx) (s : State) : LaneWork n s (assertAt n s) := by
  unfold assertAt
  split
  · exact enterHeld_work n _ _ s
  · exact setLane_work s n _
  all_goals exact LaneWork.refl n s

theorem assertAt_of_playing {n : LaneIx} {s : State} (h : (s.lane n).state = .playing) :
    assertAt n s = enterHeld n false true s := by
  simp only [assertAt, h]

theorem assertAt_of_held {n : LaneIx} {s : State} (h : (s.lane n).state = .held) :
    assertAt n s = s.setLane n { s.lane n with siteHold := true } := by
  simp only [assertAt, h]

theorem assertAt_of_rest {n : LaneIx} {s : State} (h : (s.lane n).state.running = false) : assertAt n s = s := by
  unfold assertAt
  split
  · next hst => rw [hst] at h; exact absurd h (by decide)
  · next hst => rw [hst] at h; exact absurd h (by decide)
  all_goals rfl

/-- The part with a level of the hold line taken (R94). -/
def State.withHold (s : State) (asserted : Bool) : State := { s with siteHold := asserted, siteStableMs := 200 }

theorem measured_of_stable {ms : Nat} {s : State} (h : 200 ≤ s.siteStableMs + ms) : measureHold ms s = { s with siteStableMs := 200 } := by
  simp only [measureHold, Config.siteHoldMs, Nat.min_eq_left h]

theorem exec_siteHoldAssertion {ms : Nat} {s : State} (hrunning : s.running = true) (hline : s.supply.siteLine = true)
    (hhold : s.siteHold = false) (h : 200 ≤ s.siteStableMs + ms) :
    exec (.siteHoldAssertion ms) s = .next ((s.withHold true).forLanes assertAt) := by
  change Host.Outcome.next (takeAssertion ms s) = _
  simp only [takeAssertion, hrunning, if_true, measured_of_stable h, holdSettled, hline, hhold]
  rfl

theorem exec_siteHoldRelease {ms : Nat} {s : State} (hrunning : s.running = true) (hline : s.supply.siteLine = false)
    (hhold : s.siteHold = true) (h : 200 ≤ s.siteStableMs + ms) :
    exec (.siteHoldRelease ms) s = .next ((s.withHold false).forLanes releaseAt) := by
  change Host.Outcome.next (takeRelease ms s) = _
  simp only [takeRelease, hrunning, if_true, measured_of_stable h, holdSettled, hline, hhold]
  rfl

/-- No running show has a hold limit of 0. -/
def State.mayHold (s : State) : Prop := ∀ n, (s.lane n).state = .playing → 0 < (s.lane n).l

/-- Where every running show may be held, an assertion sends nothing and withdraws nothing (R95). -/
theorem assertAt_of_mayHold (n : LaneIx) {s : State} (h : s.mayHold) : (assertAt n s).mayHold ∧ (assertAt n s).releases = s.releases
    ∧ (assertAt n s).ports = s.ports ∧ (assertAt n s).mgmt = s.mgmt ∧ (assertAt n s).sticky = s.sticky := by
  have hset (l : Lane) (hl : l.state = .held) : (s.setLane n l).mayHold := by
    intro m hm
    by_cases hmn : m = n
    · subst hmn
      rw [lane_setLane_same, hl] at hm
      exact absurd hm (by decide)
    · rw [lane_setLane_other _ _ hmn] at hm ⊢
      exact h m hm
  unfold assertAt
  split
  · next hst =>
    rw [enterHeld_of_limit _ _ (h n hst)]
    exact ⟨hset _ rfl, rfl, rfl, rfl, rfl⟩
  · next hst => exact ⟨hset _ hst, rfl, rfl, rfl, rfl⟩
  all_goals exact ⟨h, rfl, rfl, rfl, rfl⟩

/-! ## The release (R93, R96) -/

theorem releaseAt_work (n : LaneIx) (s : State) : LaneWork n s (releaseAt n s) := by
  unfold releaseAt
  dsimp only
  split
  · exact (setLane_work s n _).trans (releaseLastHold_work n _)
  · exact setLane_work s n _

theorem releaseAt_of_last {n : LaneIx} {s : State} (hst : (s.lane n).state = .held) (hsite : (s.lane n).siteHold = true)
    (hscreen : (s.lane n).screenHold = false) :
    releaseAt n s = releaseLastHold n (s.setLane n { s.lane n with siteHold := false }) := by
  simp only [releaseAt, hst, hsite, hscreen, and_self, if_true]

theorem releaseAt_of_other {n : LaneIx} {s : State} (h : (s.lane n).state ≠ .held ∨ (s.lane n).screenHold = true) :
    releaseAt n s = s.setLane n { s.lane n with siteHold := false } := by
  rw [releaseAt]
  refine if_neg fun ⟨h1, _, h3⟩ => ?_
  rcases h with h | h
  · exact h h1
  · rw [h3] at h; exact absurd h (by decide)

theorem releaseLastHold_siteHold {n : LaneIx} {s : State} (h : (s.lane n).siteHold = false) (hst : (s.lane n).state = .held) :
    ((releaseLastHold n s).lane n).siteHold = false := by
  unfold releaseLastHold
  split
  · exact h
  · next a hactive =>
    split
    · rw [lane_setLane_same]; exact h
    · rw [endShow, lane_endShowWith (Spares.id n) (by rw [hactive]; rfl) (by rw [hst]; decide)]; rfl

theorem releaseAt_siteHold (n : LaneIx) (s : State) : ((releaseAt n s).lane n).siteHold = false := by
  unfold releaseAt
  dsimp only
  split
  · next h => exact releaseLastHold_siteHold (by rw [lane_setLane_same]) (by rw [lane_setLane_same]; exact h.1)
  · rw [lane_setLane_same]

/-- Settles O40: lane by lane, each on what the other lanes' turns leave it. -/
theorem siteHoldHoldsAndFrees : Obligations.SiteHoldHoldsAndFrees := by
  refine ⟨?change, ?held, ?ended, ?freed⟩
  case change =>
    intro asserted s h
    change Host.Outcome.next (changeHoldLine asserted s) = _
    rw [changeHoldLine, if_neg h]
  case held =>
    intro ms s hrunning hline hhold hms hlimits
    obtain ⟨-, hreleases, hports, hmgmt, hsticky⟩ := forLanes_keep
      (R := fun s t => s.mayHold → t.mayHold ∧ t.releases = s.releases ∧ t.ports = s.ports ∧ t.mgmt = s.mgmt ∧ t.sticky = s.sticky)
      (fun s hs => ⟨hs, rfl, rfl, rfl, rfl⟩)
      (fun h k hs =>
        have ⟨ht, h1, h2, h3, h4⟩ := h hs
        have ⟨hu, k1, k2, k3, k4⟩ := k ht
        ⟨hu, k1.trans h1, k2.trans h2, k3.trans h3, k4.trans h4⟩)
      (fun n s => assertAt_of_mayHold n) (s.withHold true) hlimits
    refine ⟨_, exec_siteHoldAssertion hrunning hline hhold hms, ?_, fun n hst => ?_, fun n hst => ?_, fun n hst => ?_, hreleases,
      forLanes_keys assertAt_work _, hports, hmgmt, hsticky, (forLanes_sends _ assertAt_sends _).keepsRest⟩
    · exact (forLanes_sends _ assertAt_sends (s.withHold true)).siteHold
    all_goals obtain ⟨u, before, after⟩ := forLanes_turn assertAt_work n (s.withHold true)
    · have hlane : u.lane n = s.lane n := before.lane
      rw [after.lane, assertAt_of_playing (hlane ▸ hst), enterHeld_of_limit _ _ (hlane ▸ hlimits n hst), lane_setLane_same, hlane]
      rfl
    · have hlane : u.lane n = s.lane n := before.lane
      rw [after.lane, assertAt_of_held (hlane ▸ hst), lane_setLane_same, hlane]
    · have hlane : u.lane n = s.lane n := before.lane
      rw [after.lane, assertAt_of_rest (hlane ▸ hst), hlane]
  case ended =>
    intro ms s hrunning hline hhold hms
    refine ⟨_, exec_siteHoldAssertion hrunning hline hhold hms, fun n a hst hl hactive => ?_, fun n hst hl => ?_, fun n hst => ?_,
      fun n hst => ?_, forLanes_keys assertAt_work _, (forLanes_sends _ assertAt_sends _).keepsRest⟩
    all_goals
      obtain ⟨u, before, after⟩ := forLanes_turn assertAt_work n (s.withHold true)
      have hlane : u.lane n = s.lane n := before.lane
      have hrel : u.rel n = s.rel n := before.rel
      have hport : u.port n = s.port n := before.port
    · rw [assertAt_of_playing (hlane ▸ hst)] at after
      have hover := enterHeld_over (n := n) (a := a) false true (s := u) (before.running.trans hrunning) (hlane ▸ hl) (hlane ▸ hactive)
      rw [hlane] at hover
      exact ((hover.between before.toStays after.toStays).of_start (s := s) (l := s.lane n) rfl rfl rfl rfl rfl (fun _ => rfl) rfl).showEnds
    · rw [assertAt_of_playing (hlane ▸ hst), enterHeld_of_limit _ _ (hlane ▸ hl), hlane] at after
      exact ⟨after.rel.trans hrel, after.port.trans hport, after.lane.trans (lane_setLane_same ..)⟩
    · rw [assertAt_of_held (hlane ▸ hst), hlane] at after
      exact ⟨after.rel.trans hrel, after.port.trans hport, after.lane.trans (lane_setLane_same ..)⟩
    · rw [assertAt_of_rest (hlane ▸ hst)] at after
      exact ⟨after.rel.trans hrel, after.port.trans hport, after.lane.trans hlane⟩
  case freed =>
    intro ms s hrunning hline hhold hms
    refine ⟨_, exec_siteHoldRelease hrunning hline hhold hms, ?_, fun n => ?_, fun n hst hscreen => ?_,
      fun n a hst hsite hscreen hactive hcheck => ?_, fun n a reason hst hsite hscreen hactive hrefuses => ?_, fun n hst => ?_,
      forLanes_keys releaseAt_work _, (forLanes_sends _ releaseAt_sends _).keepsRest⟩
    · exact (forLanes_sends _ releaseAt_sends (s.withHold false)).siteHold
    all_goals
      obtain ⟨u, before, after⟩ := forLanes_turn releaseAt_work n (s.withHold false)
      have hlane : u.lane n = s.lane n := before.lane
    · rw [after.lane]
      exact releaseAt_siteHold n u
    · rw [after.lane, releaseAt_of_other (.inr (hlane ▸ hscreen)), lane_setLane_same, hlane]
    · let freed : Lane := { s.lane n with siteHold := false }
      have hcheck' : recheck a (u.setLane n freed) = none := (before.recheck a).trans hcheck
      rw [releaseAt_of_last (hlane ▸ hst) (hlane ▸ hsite) (hlane ▸ hscreen), hlane] at after
      rw [after.lane, releaseLastHold_of_passes (s := u.setLane n freed) (by rw [lane_setLane_same]; exact hactive) hcheck',
        lane_setLane_same, lane_setLane_same]
    · let freed : Lane := { s.lane n with siteHold := false }
      have hcheck' : recheck a (u.setLane n freed) = some reason := (before.recheck a).trans (recheck_of_refuses hrefuses)
      rw [releaseAt_of_last (hlane ▸ hst) (hlane ▸ hsite) (hlane ▸ hscreen), hlane] at after
      have hover := releaseLastHold_over (s := u.setLane n freed) (n := n) (before.running.trans hrunning)
        (by rw [lane_setLane_same]; exact congrArg LaneState.running hst) (by rw [lane_setLane_same]; exact hactive) hcheck'
      rw [lane_setLane_same] at hover
      have hover' : ShowOver u _ n (s.lane n) a (.refused reason) := hover.of_start (s := u) (l := s.lane n) rfl rfl rfl rfl rfl (fun _ => rfl) rfl
      exact ((hover'.between before.toStays after.toStays).of_start (s := s) (l := s.lane n) rfl rfl rfl rfl rfl (fun _ => rfl) rfl).showEnds
    · have hrel : u.rel n = s.rel n := before.rel
      have hnot : (u.lane n).state ≠ .held := by
        rw [hlane]
        intro hheld
        rw [hheld] at hst
        exact absurd hst (by decide)
      rw [releaseAt_of_other (.inl hnot), hlane] at after
      exact ⟨after.lane.trans (lane_setLane_same ..), after.rel.trans hrel⟩

end Sys2Proof.Machine
end


section
/-! PROOFS. A window evaluation at keys and lanes (R48, R56 to R58, R99). -/

namespace Sys2Proof.Machine

/-! ## One slot's share of an evaluation -/

/-- A key's record as an evaluation at T and U leaves it (R57). -/
def Key.evaluated (k : Key) (now u : Nat) : Key := if k.judged now u = k.state then k else k.moved (k.judged now u) now

theorem Key.evaluated_evaluated (k : Key) (now u : Nat) : (k.evaluated now u).evaluated now u = k.evaluated now u := by
  unfold Key.evaluated
  split
  · rfl
  · exact if_pos (judged_moved_judged k now u now)

/-- The part with one key moved and its KEY STATE sent, before the lanes hear of an expiry (R57, R60). -/
def moveKey (slot : Nat) (k : Key) (s : State) : State :=
  (s.setKey slot (k.moved (k.judged s.clock.now s.clock.u) s.clock.now)).raise
    (.keyState slot (some k.state) (some (k.judged s.clock.now s.clock.u)) .window)

theorem evaluateSlot_of_none {slot : Nat} {s : State} (h : s.key slot = none) : evaluateSlot slot s = s := by
  simp only [evaluateSlot, h]

theorem evaluateSlot_of_same {slot : Nat} {k : Key} {s : State} (h : s.key slot = some k)
    (hsame : k.judged s.clock.now s.clock.u = k.state) : evaluateSlot slot s = s := by
  simp only [evaluateSlot, h, if_pos hsame]

theorem moveKey_supply (slot : Nat) (k : Key) (s : State) : (moveKey slot k s).supply = s.supply := by
  rw [moveKey, raise_supply, setKey_supply]

theorem evaluateSlot_of_moved {slot : Nat} {k : Key} {s : State} (h : s.key slot = some k)
    (hmoved : k.judged s.clock.now s.clock.u ≠ k.state) : evaluateSlot slot s =
      if k.judged s.clock.now s.clock.u = .expired ∧ s.running = true then expiryNotice slot (moveKey slot k s)
      else moveKey slot k s := by
  have hrunning : (moveKey slot k s).running = s.running := by rw [State.running, State.running, moveKey_supply]
  rw [← hrunning]
  simp only [evaluateSlot, h, if_neg hmoved]
  rfl

theorem key_evaluateSlot (slot i : Nat) (s : State) : (evaluateSlot slot s).key i
    = if i = slot then (s.key i).map (fun k => k.evaluated s.clock.now s.clock.u) else s.key i := by
  cases hk : s.key slot with
  | none =>
    rw [evaluateSlot_of_none hk]
    split
    · next h => rw [h, hk]; rfl
    · rfl
  | some k =>
    by_cases hsame : k.judged s.clock.now s.clock.u = k.state
    · rw [evaluateSlot_of_same hk hsame]
      split
      · next h => rw [h, hk, Option.map_some, Key.evaluated, if_pos hsame]
      · rfl
    · have hkeys : (evaluateSlot slot s).key i = (moveKey slot k s).key i := by
        rw [evaluateSlot_of_moved hk hsame]
        split
        · exact (expiryNotice_retains slot _).key i
        · rfl
      rw [hkeys, moveKey, key_raise]
      split
      · next h => rw [h, key_setKey_same, hk, Option.map_some, Key.evaluated, if_neg hsame]
      · next h => rw [key_setKey_other _ _ h]

theorem moveKey_stays (n : LaneIx) (slot : Nat) (k : Key) (s : State) : Stays n s (moveKey slot k s) :=
  ⟨(setKey_sends s slot _).trans (raise_sends _ _), by rw [moveKey, lane_raise, lane_setKey], by rw [moveKey, rel_raise, rel_setKey],
    by rw [moveKey, port_raise, port_setKey]⟩

/-- Lane n runs no show on a slot. -/
def State.offSlot (s : State) (n : LaneIx) (slot : Nat) : Prop :=
  (s.lane n).state.running = true → ∀ a, (s.lane n).active = some a → a.slot ≠ slot

theorem expireAt_work (slot : Nat) (n : LaneIx) (s : State) : LaneWork n s (expireAt slot n s) := by
  unfold expireAt
  split
  · exact endShow_work n _ s
  · exact LaneWork.refl n s

theorem expireAt_off {slot : Nat} {n : LaneIx} {s : State} (h : s.offSlot n slot) : expireAt slot n s = s := by
  refine if_neg fun hhit => ?_
  rw [Bool.and_eq_true] at hhit
  obtain ⟨hrun, hon⟩ := hhit
  obtain ⟨a, hactive, hslot⟩ := (Option.any_eq_true _ _).mp hon
  exact h hrun a hactive (by simpa using hslot)

theorem expiryNotice_stays {slot : Nat} {n : LaneIx} {s : State} (h : s.offSlot n slot) : Stays n s (expiryNotice slot s) := by
  obtain ⟨u, before, after⟩ := forLanes_turn (expireAt_work slot) n s
  rw [expireAt_off (by rw [State.offSlot, before.lane]; exact h)] at after
  exact before.toStays.trans after.toStays

/-- The evaluation of a slot stays out of lane n where it expires nothing, where nobody is at work, and where no show of the lane
is on the slot (R58, R99). -/
theorem evaluateSlot_stays {slot : Nat} {n : LaneIx} {s : State}
    (h : ∀ k, s.key slot = some k → k.judged s.clock.now s.clock.u = .expired → k.state ≠ .expired → s.running = true →
      s.offSlot n slot) : Stays n s (evaluateSlot slot s) := by
  cases hk : s.key slot with
  | none => rw [evaluateSlot_of_none hk]; exact Stays.refl n s
  | some k =>
    by_cases hsame : k.judged s.clock.now s.clock.u = k.state
    · rw [evaluateSlot_of_same hk hsame]; exact Stays.refl n s
    · rw [evaluateSlot_of_moved hk hsame]
      have hmove := moveKey_stays n slot k s
      split
      · next hexp =>
        obtain ⟨hexpired, hrunning⟩ := hexp
        have hoff := h k hk hexpired (fun hst => hsame (hexpired.trans hst.symm)) hrunning
        exact hmove.trans (expiryNotice_stays (by rw [State.offSlot, hmove.lane]; exact hoff))
      · exact hmove

/-! ## All slots in turn -/

/-- The evaluation of the slots of a list. -/
def evaluateSlots (slots : List Nat) (s : State) : State := slots.foldl (fun s slot => evaluateSlot slot s) s

theorem evaluate_of_usable {s : State} (h : s.clock.usable = true) : evaluate s = evaluateSlots (s.keys.map Prod.fst) s := by
  rw [evaluate, if_pos h]
  rfl

theorem evaluate_of_unusable {s : State} (h : s.clock.usable = false) : evaluate s = s := by
  rw [evaluate, h]
  rfl

theorem evaluateSlots_keep {R : State → State → Prop} (refl : ∀ s, R s s) (trans : ∀ {s t u}, R s t → R t u → R s u)
    (slots : List Nat) (h : ∀ slot ∈ slots, ∀ s, R s (evaluateSlot slot s)) (s : State) : R s (evaluateSlots slots s) := by
  induction slots generalizing s with
  | nil => exact refl s
  | cons slot slots ih =>
    exact trans (h slot List.mem_cons_self s) (ih (fun i hi => h i (List.mem_cons_of_mem slot hi)) (evaluateSlot slot s))

theorem evaluateSlots_sends (slots : List Nat) (s : State) : Sends s (evaluateSlots slots s) :=
  evaluateSlots_keep Sends.refl Sends.trans slots (fun slot _ => evaluateSlot_sends slot) s

theorem key_evaluateSlots (slots : List Nat) (i : Nat) (s : State) : (evaluateSlots slots s).key i
    = if i ∈ slots then (s.key i).map (fun k => k.evaluated s.clock.now s.clock.u) else s.key i := by
  induction slots generalizing s with
  | nil => rfl
  | cons slot slots ih =>
    change (evaluateSlots slots (evaluateSlot slot s)).key i = _
    rw [ih, (evaluateSlot_sends slot s).clock, key_evaluateSlot]
    by_cases hslot : i = slot
    · simp only [hslot, if_true, List.mem_cons_self, Option.map_map]
      split
      · refine congrArg (fun f => (s.key slot).map f) (funext fun k => ?_)
        exact k.evaluated_evaluated _ _
      · rfl
    · simp only [hslot, if_false, List.mem_cons, false_or]

/-- An evaluation under a usable time leaves every key as its judgement takes it (R57). -/
theorem key_evaluate {s : State} (h : s.clock.usable = true) (i : Nat) :
    (evaluate s).key i = (s.key i).map (fun k => k.evaluated s.clock.now s.clock.u) := by
  rw [evaluate_of_usable h, key_evaluateSlots]
  split
  · rfl
  · next hnot =>
    cases hk : s.key i with
    | none => rfl
    | some k => exact absurd (List.mem_map_of_mem (mem_of_lookupKey hk)) hnot

theorem mem_slots_of_key {s : State} {i : Nat} {k : Key} (h : s.key i = some k) : i ∈ s.keys.map Prod.fst :=
  List.mem_map_of_mem (f := Prod.fst) (mem_of_lookupKey h)

/-- A key that moves has sent its KEY STATE (R60). -/
theorem evaluateSlots_flags {slots : List Nat} {i : Nat} {k : Key} (hi : i ∈ slots) {s : State} (hrunning : s.running = true)
    (hk : s.key i = some k) (hmoved : k.judged s.clock.now s.clock.u ≠ k.state) :
    (evaluateSlots slots s).sticky.getLsbD EventKind.keyState.code = true := by
  induction slots generalizing s with
  | nil => exact absurd hi List.not_mem_nil
  | cons slot slots ih =>
    change (evaluateSlots slots (evaluateSlot slot s)).sticky.getLsbD _ = true
    by_cases hslot : i = slot
    · subst hslot
      refine (evaluateSlots_sends slots _).sticky _ ?_
      have hflag : (moveKey i k s).sticky.getLsbD EventKind.keyState.code = true := raise_sticky _ _ hrunning
      rw [evaluateSlot_of_moved hk hmoved]
      split
      · exact (expiryNotice_sends i _).sticky _ hflag
      · exact hflag
    · have hsends := evaluateSlot_sends slot s
      refine ih ((List.mem_cons.mp hi).resolve_left hslot) ?_ ?_ ?_
      · rw [State.running, hsends.supply]; exact hrunning
      · rw [key_evaluateSlot, if_neg hslot]; exact hk
      · rw [hsends.clock]; exact hmoved

/-! ## What one key's evaluation writes (R48, R57) -/

theorem Key.judged_of_live {k : Key} (now u : Nat) (hexpired : k.state ≠ .expired) (hrevoked : k.state ≠ .revoked) :
    k.judged now u = if k.na + k.a + u ≤ now then .expired
      else if k.na ≤ now + u then .closing
      else if k.nb + u ≤ now ∧ k.state = .waiting then .opened else k.state := by
  unfold Key.judged Key.furthest
  cases hst : k.state with
  | expired => exact absurd hst hexpired
  | revoked => exact absurd hst hrevoked
  | waiting => split_ifs <;> simp_all [KeyState.rank]
  | opened => split_ifs <;> simp_all [KeyState.rank]
  | closing => split_ifs <;> simp_all [KeyState.rank]

theorem Key.judged_of_ended {k : Key} (now u : Nat) (h : k.state = .expired ∨ k.state = .revoked) : k.judged now u = k.state := by
  rcases h with h | h <;> simp only [Key.judged, h]

theorem Key.rank_le_judged (k : Key) (now u : Nat) : k.state.rank ≤ (k.judged now u).rank := by
  unfold Key.judged
  split
  · next h => rw [h]
  · next h => rw [h]
  · split
    · exact Nat.le_refl _
    · split
      · next h => exact Nat.le_of_lt h
      · exact Nat.le_refl _

theorem Key.evaluated_state (k : Key) (now u : Nat) : (k.evaluated now u).state = k.judged now u := by
  unfold Key.evaluated
  split
  · next h => exact h.symm
  · rfl

theorem Key.evaluated_eq (k : Key) (now u : Nat) :
    k.evaluated now u = { k with state := (k.evaluated now u).state, expiredAt := (k.evaluated now u).expiredAt } := by
  unfold Key.evaluated
  split <;> rfl

theorem Key.evaluated_of_ended {k : Key} (now u : Nat) (h : k.state = .expired ∨ k.state = .revoked) : k.evaluated now u = k :=
  if_pos (k.judged_of_ended now u h)

theorem Key.evaluated_expiredAt {k : Key} (now u : Nat) (hexpired : k.state ≠ .expired) (hrevoked : k.state ≠ .revoked) :
    (k.evaluated now u).expiredAt = if k.na + k.a + u ≤ now then some now else k.expiredAt := by
  have hjudged : k.judged now u = .expired ↔ k.na + k.a + u ≤ now := by
    rw [k.judged_of_live now u hexpired hrevoked]
    split
    · next h => simp [h]
    · next h => split_ifs <;> simp_all
  unfold Key.evaluated
  split
  · next hsame => rw [if_neg (fun h => hexpired (hsame ▸ hjudged.mpr h))]
  · simp only [Key.moved, hjudged]

/-! ## A show on a key that expires (R58, R99) -/

/-- The evaluations of other slots leave a lane and its key. -/
theorem evaluateSlots_before {n : LaneIx} {a : ActiveReel} {slots : List Nat} (hnot : a.slot ∉ slots) {s : State}
    (hactive : (s.lane n).active = some a) : Stays n s (evaluateSlots slots s) := by
  refine (evaluateSlots_keep (R := fun s t => (s.lane n).active = some a → Stays n s t) (fun s _ => Stays.refl n s)
    (fun h k hs => (h hs).trans (k (by rw [(h hs).lane]; exact hs))) slots (fun slot hslot s hs => ?_) s) hactive
  refine evaluateSlot_stays fun _ _ _ _ _ _ b hb => ?_
  rw [hs] at hb
  rw [← Option.some.inj hb]
  exact fun h => hnot (h ▸ hslot)

/-- Evaluations leave a lane that runs no show. -/
theorem evaluateSlots_after {n : LaneIx} (slots : List Nat) {s : State} (hrest : (s.lane n).state.running = false) :
    Stays n s (evaluateSlots slots s) := by
  refine (evaluateSlots_keep (R := fun s t => (s.lane n).state.running = false → Stays n s t) (fun s _ => Stays.refl n s)
    (fun h k hs => (h hs).trans (k (by rw [(h hs).lane]; exact hs))) slots (fun slot _ s hs => ?_) s) hrest
  exact evaluateSlot_stays fun _ _ _ _ _ hrun => by rw [hs] at hrun; exact absurd hrun (by decide)

theorem evaluate_stays_of_rest {n : LaneIx} {s : State} (hrest : (s.lane n).state.running = false) : Stays n s (evaluate s) := by
  cases hu : s.clock.usable with
  | true => rw [evaluate_of_usable hu]; exact evaluateSlots_after _ hrest
  | false => rw [evaluate_of_unusable hu]; exact Stays.refl n s

theorem evaluate_stays_of_idle {n : LaneIx} {s : State} (h : s.running = false) : Stays n s (evaluate s) := by
  refine evaluate_through (R := fun s t => s.running = false → Stays n s t) (fun s _ => Stays.refl n s)
    (fun h k hs => (h hs).trans (k ((h hs).running.trans hs))) (fun slot s hs => ?_) s h
  exact evaluateSlot_stays fun _ _ _ _ hrunning => by rw [hs] at hrunning; exact absurd hrunning (by decide)

theorem evaluate_stays_of_spared {n : LaneIx} {s : State}
    (h : ∀ a, (s.lane n).active = some a → ¬ s.expiresAt s.clock a.slot) : Stays n s (evaluate s) := by
  cases hu : s.clock.usable with
  | false => rw [evaluate_of_unusable hu]; exact Stays.refl n s
  | true =>
    have hspares : s.spares n := by
      intro a _ hactive k hk hexpired
      by_contra hne
      exact h a hactive ⟨hu, by simp [hk, hexpired, hne]⟩
    refine (evaluate_through (R := fun s t => s.spares n → t.spares n ∧ Stays n s t) (fun s hs => ⟨hs, Stays.refl n s⟩)
      (fun h k hs => ⟨(k (h hs).1).1, (h hs).2.trans (k (h hs).1).2⟩) (fun slot s hs => ?_) s hspares).2
    refine ⟨(evaluateSlot_spares slot s hs).1, evaluateSlot_stays fun k hk hexpired hne _ hrun a hactive hslot => ?_⟩
    subst hslot
    exact hne (hs a hrun hactive k hk hexpired)

/-- A show on a key that expires ends at its slot's turn (R58, R99). -/
theorem evaluate_over {n : LaneIx} {a : ActiveReel} {s : State} (hrunning : s.running = true)
    (hrun : (s.lane n).state.running = true) (hactive : (s.lane n).active = some a) (hexpires : s.expiresAt s.clock a.slot) :
    ShowOver s (evaluate s) n (s.lane n) a (.refused .expired) := by
  obtain ⟨husable, hany⟩ := hexpires
  obtain ⟨k, hk, hjudged⟩ := (Option.any_eq_true _ _).mp hany
  rw [Bool.and_eq_true, bne_iff_ne, beq_iff_eq] at hjudged
  obtain ⟨hlive, hjudged⟩ := hjudged
  obtain ⟨before, after, hsplit, hnot⟩ := List.eq_append_cons_of_mem (mem_slots_of_key hk)
  let u0 := evaluateSlots before s
  have h0 : Stays n s u0 := evaluateSlots_before hnot hactive
  have hk0 : u0.key a.slot = some k := by
    rw [key_evaluateSlots, if_neg hnot]; exact hk
  have hjudged0 : k.judged u0.clock.now u0.clock.u = .expired := by rw [h0.clock]; exact hjudged
  have hmoved : k.judged u0.clock.now u0.clock.u ≠ k.state := by rw [hjudged0]; exact hlive.symm
  have hslot : evaluateSlot a.slot u0 = expiryNotice a.slot (moveKey a.slot k u0) := by
    rw [evaluateSlot_of_moved hk0 hmoved, if_pos ⟨hjudged0, h0.running.trans hrunning⟩]
  obtain ⟨u, hbefore, hafter⟩ := forLanes_turn (expireAt_work a.slot) n (moveKey a.slot k u0)
  have hu : Stays n s u := (h0.trans (moveKey_stays n a.slot k u0)).trans hbefore.toStays
  have hexpire : expireAt a.slot n u = endShow n (.refused .expired) u := by
    rw [expireAt, hu.lane, hrun, hactive]
    simp
  have hover := endShow_over (n := n) (a := a) (.refused .expired) (s := u) (hu.running.trans hrunning) (by rw [hu.lane]; exact hrun)
    (by rw [hu.lane]; exact hactive)
  rw [hu.lane, ← hexpire] at hover
  have hat := hover.between hu hafter.toStays
  have hrest : ((expiryNotice a.slot (moveKey a.slot k u0)).lane n).state.running = false := by
    rw [show (expiryNotice a.slot (moveKey a.slot k u0)).lane n = _ from hat.lane]
    change (s.endedState n).running = false
    rw [State.endedState]
    split <;> rfl
  have hall : evaluate s = evaluateSlots after (expiryNotice a.slot (moveKey a.slot k u0)) := by
    rw [evaluate_of_usable husable, hsplit, ← hslot]
    simp only [evaluateSlots, List.foldl_append, List.foldl_cons, u0]
  rw [hall]
  exact hat.between (Stays.refl n s) (evaluateSlots_after after hrest)

/-- Settles O11: keys by their judgement, lanes by their slot's turn. -/
theorem evaluationMovesKeysForward : Obligations.EvaluationMovesKeysForward := by
  refine ⟨fun s slot k hk => ?_, fun s slot hk => ?_, fun s n a hrunning hrun hactive hexpires hplace => ?_, fun s n h => ?_,
    fun s => (evaluate_sends s).keepsRest⟩
  · cases hu : s.clock.usable with
    | false =>
      rw [evaluate_of_unusable hu]
      exact ⟨k, hk, Nat.le_refl _, rfl, fun _ => rfl, fun h => absurd h (by decide)⟩
    | true =>
      refine ⟨k.evaluated s.clock.now s.clock.u, by rw [key_evaluate hu, hk]; rfl, ?_, k.evaluated_eq _ _, fun h => ?_,
        fun _ hexpired hrevoked => ⟨?_, k.evaluated_expiredAt _ _ hexpired hrevoked, fun hrunning hne => ?_⟩⟩
      · rw [Key.evaluated_state]; exact k.rank_le_judged _ _
      · refine k.evaluated_of_ended _ _ ?_
        rcases h with h | h | h
        · exact .inl h
        · exact .inr h
        · exact absurd h (by decide)
      · rw [Key.evaluated_state]; exact k.judged_of_live _ _ hexpired hrevoked
      · rw [Key.evaluated_state] at hne
        rw [evaluate_of_usable hu]
        exact evaluateSlots_flags (mem_slots_of_key hk) hrunning hk hne
  · cases hu : s.clock.usable with
    | false => rw [evaluate_of_unusable hu]; exact hk
    | true => rw [key_evaluate hu, hk]; rfl
  · have hover := evaluate_over hrunning hrun hactive hexpires
    refine ⟨?_, hover.withdrawn hplace, fun hf hb hplaces hkept => hover.said hplace hb (roomAt_of_places hf hplaces hkept)⟩
    rw [hover.lane, show s.endedState n = .idle from if_pos hplace]
    rfl
  · have hstays : Stays n s (evaluate s) := by
      rcases h with h | h | h
      · exact evaluate_stays_of_idle h
      · exact evaluate_stays_of_rest h
      · exact evaluate_stays_of_spared h
    exact ⟨hstays.lane, hstays.rel, hstays.port⟩

end Sys2Proof.Machine
end


section
/-! PROOFS. Timeouts, confirmations and clearings (R100, R137 to R148). -/

namespace Sys2Proof.Machine

/-! ## QUARANTINE entered on a timeout (R137, R144, R148) -/

theorem quarantine_flags {n : LaneIx} (cause : QuarantineCause) {s : State} (hrunning : s.running = true)
    (h : (s.lane n).state ≠ .quarantine) : (quarantine n cause s).sticky.getLsbD EventKind.laneQuarantined.code = true := by
  have hrecord (t : State) (ht : Sends s t) : (recordQuarantine n cause t).sticky.getLsbD EventKind.laneQuarantined.code = true := by
    refine raise_sticky _ _ ?_
    rw [State.running, cancelDeadlines_eq, setRel_supply, ht.supply]
    exact hrunning
  rw [quarantine, if_neg h, dropShow_eq]
  dsimp only
  have hdrop := setLane_sends s n ((s.lane n).endedIn .quarantine)
  split
  · exact hrecord _ (hdrop.trans (reportShowEnd_quiet n _ _ _).toSends)
  · exact hrecord _ hdrop

theorem quarantine_work (n : LaneIx) (cause : QuarantineCause) (s : State) : LaneWork n s (quarantine n cause s) :=
  ⟨quarantine_local n cause s, quarantine_sends n cause s, (quarantine_retains n cause s).keys⟩

theorem LaneState.ne_quarantine_of_inService {st : LaneState} (h : st.inService = true) : st ≠ .quarantine :=
  fun hq => by rw [hq] at h; exact absurd h (by decide)

/-- Settles O42: each timeout is one entry into QUARANTINE. -/
theorem timeoutsQuarantineTheLane : Obligations.TimeoutsQuarantineTheLane := by
  constructor
  · intro n s hrunning hserves hlate
    let late := (s.rel n).timedOut.length
    let s1 := s.setLane n { s.lane n with timeouts := min Config.maxCount ((s.lane n).timeouts + late) }
    have hlate' : decide (0 < (s.rel n).timedOut.length) = true := decide_eq_true (List.length_pos_iff.mpr hlate)
    have hst : (s1.lane n).state ≠ .quarantine := by
      rw [lane_setLane_same]; exact LaneState.ne_quarantine_of_inService hserves
    have hexec : exec (.withdrawalTimeout n) s = .next (quarantine n .withdrawalTimeout s1) := by
      change Host.Outcome.next (takeWithdrawalTimeout n s) = _
      simp only [takeWithdrawalTimeout, hrunning, timeOutWithdrawals, hserves, hlate', Bool.and_self, if_true]
      rfl
    obtain ⟨hothers, hkeys, hrest⟩ := ((setLane_work s n _).trans (quarantine_work n .withdrawalTimeout s1)).rest
    refine ⟨_, hexec, ?_, ?_, ?_, ?_, quarantine_flags _ hrunning hst, fun m hm => ⟨(hothers m hm).1, (hothers m hm).2.1⟩, hkeys, hrest⟩
    · rw [lane_quarantine _ hst]; rfl
    · rw [lane_quarantine _ hst]; rfl
    · rw [lane_quarantine _ hst, lane_setLane_same]; rfl
    · rw [rel_quarantine _ hst]; rfl
  · intro n s hrunning hstate hzero
    have hst : (s.lane n).state ≠ .quarantine := by rw [hstate]; decide
    have hexec : exec (.clearingTimeout n) s = .next (quarantine n .clearingTimeout s) := by
      change Host.Outcome.next (takeClearingTimeout n s) = _
      simp only [takeClearingTimeout, hrunning, timeOutClearing, hstate, hzero, and_self, if_true]
    refine ⟨_, hexec, ?_, ?_, ?_, quarantine_flags _ hrunning hst, (quarantine_work n .clearingTimeout s).rest⟩
    · rw [lane_quarantine _ hst]; rfl
    · rw [lane_quarantine _ hst]; rfl
    · rw [rel_quarantine _ hst]; rfl

/-! ## ERASED (R138 to R140) -/

theorem exec_erased {n : LaneIx} {s : State} (tag : Byte) (serial : BitVec 16) (h : s.readyScreen n) :
    exec (.erased (.screen n) tag serial) s
      = .next (replyOn (.screen n) tag (erasedAt n serial.toNat (s.holding (.screen n)))) := by
  have hexec := exec_of_ready (.screen n) tag (.erased serial) s h.1
  change _ = Host.Outcome.next (replyOn _ tag (underEntry n Binding.admitsErased _ (erasedAt n serial.toNat) _)) at hexec
  rwa [underEntry_of_readyScreen h] at hexec

theorem exec_erasedAll {n : LaneIx} {s : State} (tag : Byte) (h : s.readyScreen n) :
    exec (.erasedAll (.screen n) tag) s = .next (replyOn (.screen n) tag (erasedAllAt n (s.holding (.screen n)))) := by
  have hexec := exec_of_ready (.screen n) tag .erasedAll s h.1
  change _ = Host.Outcome.next (replyOn _ tag (underEntry n Binding.admitsErased _ (erasedAllAt n) _)) at hexec
  rwa [underEntry_of_readyScreen h] at hexec

theorem erasedAt_of_outstanding {n : LaneIx} {serial : Nat} {e : Entry} {s : State} (h0 : serial ≠ 0)
    (h : (s.rel n).outstanding.find? (fun x => x.serial == serial) = some e) : erasedAt n serial s
      = (eraseOutstanding n e s, erasedReply n .accepted (some .outstanding) (eraseOutstanding n e s)) := by
  simp only [erasedAt, if_neg h0, h]

theorem find_none_of_serials {outstanding : List Entry} {serial : Nat} (h : ∀ e ∈ outstanding, e.serial ≠ serial) :
    outstanding.find? (fun x => x.serial == serial) = none :=
  List.find?_eq_none.mpr fun e he => by simpa using h e he

theorem erasedAt_of_active {n : LaneIx} {serial : Nat} {a : ActiveReel} {s : State} (h0 : serial ≠ 0)
    (hnone : ∀ e ∈ (s.rel n).outstanding, e.serial ≠ serial) (hrun : (s.lane n).state.running = true)
    (hactive : (s.lane n).active = some a) (hserial : a.serial = serial) : erasedAt n serial s
      = (eraseActive n a s, erasedReply n .accepted (some .active) (eraseActive n a s)) := by
  have hunder : (s.lane n).activeUnder serial = some a := by simp [Lane.activeUnder, hrun, hactive, hserial]
  simp only [erasedAt, if_neg h0, find_none_of_serials hnone, hunder]

theorem erasedAt_of_unknown {n : LaneIx} {serial : Nat} {s : State} (hnone : ∀ e ∈ (s.rel n).outstanding, e.serial ≠ serial)
    (h : serial = 0 ∨ (s.lane n).state.running = false ∨ ∀ a, (s.lane n).active = some a → a.serial ≠ serial) :
    erasedAt n serial s = (s, erasedReply n .unknownGrant none s) := by
  by_cases h0 : serial = 0
  · simp only [erasedAt, if_pos h0]
  · have hunder : (s.lane n).activeUnder serial = none := by
      rcases h with h | h | h
      · exact absurd h h0
      · rw [Lane.activeUnder, h]; rfl
      · unfold Lane.activeUnder
        split
        · cases ha : (s.lane n).active with
          | none => rfl
          | some a => simpa using h a ha
        · rfl
    simp only [erasedAt, if_neg h0, find_none_of_serials hnone, hunder]

theorem stillNamed_eq_false_iff (slot : Nat) (outstanding : List Entry) (active : Option ActiveReel) :
    stillNamed slot outstanding active = false ↔
      (∀ x ∈ outstanding, x.slot ≠ slot) ∧ ∀ a, active = some a → a.slot ≠ slot := by
  rw [stillNamed, Bool.or_eq_false_iff]
  refine and_congr (by simp) ?_
  cases active <;> simp

/-- The holdings of a confirmation: the slot leaves where no other grant names it (R138, R139). -/
theorem holdingsWithout_eq (slot : Nat) (holdings : List Nat) (outstanding : List Entry) (active : Option ActiveReel) :
    holdingsWithout slot holdings outstanding active
      = if (∀ x ∈ outstanding, x.slot ≠ slot) ∧ (∀ a, active = some a → a.slot ≠ slot) then holdings.filter (fun x => x != slot)
        else holdings := by
  simp only [← stillNamed_eq_false_iff, holdingsWithout]
  cases stillNamed slot outstanding active <;> rfl

theorem screenErased_work (n : LaneIx) (s : State) : LaneWork n s (screenErased n s) :=
  ⟨screenErased_local n s, screenErased_sends n s, (screenErased_retains n s).keys⟩

theorem setRel_work (s : State) (n : LaneIx) (r : Release) : LaneWork n s (s.setRel n r) :=
  ⟨setRel_local s n r, setRel_sends s n r, rfl⟩

/-- The end of a show that its screen has erased, SHOW ENDED finding room (R100). -/
theorem screenErased_says {n : LaneIx} {a : ActiveReel} {s : State} (hrun : (s.lane n).state.running = true)
    (hactive : (s.lane n).active = some a) (hbound : (s.port n).state.isBound = true) {k : Nat} (hroom : s.roomAt n (k + 1)) :
    Says n s (screenErased n s) [endNotice (s.lane n) a .screenErased s.clock.t] := by
  have hset := Says.setLane n s ((s.lane n).endedIn .idle)
  rw [screenErased_eq_of_running hrun]
  simp only [reportShowEnd, hactive]
  rw [if_pos (by rw [port_setLane]; exact hbound)]
  exact hset.trans (Says.notify (hset.roomAt hroom) _)

/-- Settles O43, by what the serial names. -/
theorem erasedConfirmsOneGrant : Obligations.ErasedConfirmsOneGrant := by
  refine ⟨fun n tag serial e s h h0 hfind => ⟨_, _, rfl, rfl, (exec_erased tag serial h).trans (congrArg _ ?_)⟩,
    fun n tag serial s h hnone => ⟨fun a h0 hrun hactive hserial => ⟨_, exec_erased tag serial h, ?_⟩,
      fun hunknown => (exec_erased tag serial h).trans (congrArg _ ?_)⟩⟩
  · have hserial : e.serial = serial.toNat := by simpa using List.find?_some hfind
    let rest := (s.rel n).outstanding.filter (fun x => x.serial != serial.toNat)
    have herase : eraseOutstanding n e (s.holding (.screen n)) = (s.holding (.screen n)).setRel n { s.rel n with
        outstanding := rest
        holdings := if (s.lane n).state.inService = true ∧ (∀ x ∈ rest, x.slot ≠ e.slot)
            ∧ (∀ a, (s.lane n).active = some a → a.slot ≠ e.slot) then (s.rel n).holdings.filter (fun x => x != e.slot)
            else (s.rel n).holdings } := by
      simp only [eraseOutstanding, rel_holding, lane_holding, hserial, holdingsWithout_eq, ite_and]
      rfl
    rw [erasedAt_of_outstanding h0 (s := s.holding (.screen n)) hfind, herase]
    rw [erasedReply, rel_setRel_same, lane_setRel, lane_holding]
    exact replyOn_same (.screen n) tag (s.setRel n _) _ h.1.2.2.2
  · have hkept : s.kept = none := h.1.2.2.2
    let s0 := s.holding (.screen n)
    have hwork := (screenErased_work n s0).trans (setRel_work (screenErased n s0) n { (screenErased n s0).rel n with
      holdings := holdingsWithout a.slot ((screenErased n s0).rel n).holdings ((screenErased n s0).rel n).outstanding none })
    have hsays := (screenErased_says (s := s0) hrun hactive (bound_of_readyScreen (s := s) h) (roomAt_of_ready h.1)).trans
      (Says.setRel n (screenErased n s0) { (screenErased n s0).rel n with
        holdings := holdingsWithout a.slot ((screenErased n s0).rel n).holdings ((screenErased n s0).rel n).outstanding none })
    have hlane : (eraseActive n a s0).lane n = (s.lane n).endedIn .idle := by
      rw [eraseActive, lane_setRel, lane_screenErased_of_running (s := s0) hrun]; rfl
    rw [erasedAt_of_active h0 (s := s0) hnone hrun hactive hserial]
    obtain ⟨hothers, hkeys, hrest⟩ := hwork.rest_replyOn hkept tag
      (erasedReply n .accepted (some .active) (eraseActive n a s0))
    refine ⟨?_, ?_, ?_, ?_, hothers, hkeys, hrest, ?_, ?_⟩
    · rw [lane_replyOn, hlane]; rfl
    · rw [lane_replyOn, hlane]; rfl
    · rw [rel_replyOn, eraseActive, rel_setRel_same, rel_screenErased, holdingsWithout_eq]
      simp only [reduceCtorEq, false_implies, implies_true, and_true]
      rfl
    · rw [link_replyOn_same, erasedReply, hlane, rel_replyOn]
      refine (congrArg (· ++ _) hsays.tx).trans ?_
      rw [List.append_nil, List.append_assoc]
      rfl
    · rw [replyOn_mgmt_screen]; exact hsays.mgmt
    · rw [replyOn_sticky]; exact hsays.sticky
  · rw [erasedAt_of_unknown (s := s.holding (.screen n)) hnone hunknown]
    exact replyOn_same (.screen n) tag s _ h.1.2.2.2

/-! ## ERASED ALL (R141, R142) -/

theorem erasedAllAt_of_clearing {n : LaneIx} {s : State} (h : (s.lane n).state = .clearing) : erasedAllAt n s
    = (completeClearing n s, .erasedAll .accepted ((completeClearing n s).lane n).state (some (s.rel n).holdings)) := by
  simp only [erasedAllAt, h]

theorem erasedAllAt_of_inService {n : LaneIx} {s : State} (h : (s.lane n).state.inService = true) : erasedAllAt n s
    = (eraseEverything n s, .erasedAll .accepted ((eraseEverything n s).lane n).state (some (s.rel n).holdings)) := by
  unfold erasedAllAt
  cases hst : (s.lane n).state with
  | idle => rfl
  | playing => rfl
  | held => rfl
  | clearing => rw [hst] at h; exact absurd h (by decide)
  | quarantine => rw [hst] at h; exact absurd h (by decide)
  | offline => rw [hst] at h; exact absurd h (by decide)

theorem raise_work (n : LaneIx) (s : State) (e : Event) : LaneWork n s (s.raise e) :=
  ⟨raise_local n s e, raise_sends s e, raise_keys s e⟩

theorem completeClearing_work (n : LaneIx) (s : State) : LaneWork n s (completeClearing n s) := by
  unfold completeClearing
  dsimp only
  exact ((setRel_work s n _).trans (setLane_work _ n _)).trans (raise_work n _ _)

theorem lane_completeClearing (n : LaneIx) (s : State) : (completeClearing n s).lane n = { s.lane n with state := .idle } := by
  rw [completeClearing, lane_raise, lane_setLane_same]
  rfl

theorem rel_completeClearing (n : LaneIx) (s : State) : (completeClearing n s).rel n
    = { s.rel n with outstanding := [], holdings := [], clearRequired := false, clearing := none } := by
  rw [completeClearing, rel_raise, rel_setLane, rel_setRel_same]

theorem port_completeClearing (n m : LaneIx) (s : State) : (completeClearing n s).port m = s.port m := by
  rw [completeClearing, port_raise, port_setLane, port_setRel]

theorem screenErased_of_rest {n : LaneIx} {s : State} (h : (s.lane n).state.running = false) : screenErased n s = s :=
  if_neg (by rw [h]; exact Bool.false_ne_true)

theorem eraseEverything_work (n : LaneIx) (s : State) : LaneWork n s (eraseEverything n s) :=
  (screenErased_work n s).trans (setRel_work _ n _)

/-- The one notice of an ERASED ALL in service finds room, and nothing else is sent (R142). -/
theorem screenErased_quiet {n : LaneIx} {s : State} (hbound : (s.port n).state.isBound = true) {k : Nat} (hroom : s.roomAt n (k + 1)) :
    (screenErased n s).mgmt = s.mgmt ∧ (screenErased n s).sticky = s.sticky := by
  cases hrun : (s.lane n).state.running with
  | false => rw [screenErased_of_rest hrun]; exact ⟨rfl, rfl⟩
  | true =>
    cases ha : (s.lane n).active with
    | none =>
      rw [screenErased_eq_of_running hrun]
      simp only [reportShowEnd, ha]
      exact ⟨rfl, rfl⟩
    | some a =>
      have hsays := screenErased_says hrun ha hbound hroom
      exact ⟨hsays.mgmt, hsays.sticky⟩

theorem lane_screenErased_state {n : LaneIx} {s : State} (h : (s.lane n).state.inService = true) :
    ((screenErased n s).lane n).state = .idle := by
  cases hrun : (s.lane n).state.running with
  | true => rw [lane_screenErased_of_running hrun]; rfl
  | false =>
    rw [screenErased_of_rest hrun]
    rw [LaneState.inService, hrun, Bool.or_false] at h
    exact beq_iff_eq.mp h

/-- Settles O44, by the lane's state. -/
theorem erasedAllEmptiesTheLane : Obligations.ErasedAllEmptiesTheLane := by
  refine fun n tag s h => ⟨fun hst => ⟨_, exec_erasedAll tag h, ?_⟩, fun hserves => ⟨_, exec_erasedAll tag h, ?_⟩⟩
  all_goals
    have hkept : s.kept = none := h.1.2.2.2
    have hrunning : s.running = true := running_of_readyScreen h.1
    let s0 := s.holding (.screen n)
  · rw [erasedAllAt_of_clearing (s := s0) hst]
    obtain ⟨hothers, hkeys, hrest⟩ := (completeClearing_work n s0).rest_replyOn hkept tag
      (.erasedAll .accepted ((completeClearing n s0).lane n).state (some (s0.rel n).holdings))
    refine ⟨?_, ?_, ?_, ?_, fun m hm => ⟨(hothers m hm).1, (hothers m hm).2.1⟩, hkeys, hrest⟩
    · rw [lane_replyOn, lane_completeClearing]; rfl
    · rw [rel_replyOn, rel_completeClearing]; rfl
    · rw [replyOn_sticky]; exact raise_sticky _ _ hrunning
    · rw [link_replyOn_same, lane_completeClearing]
      exact congrArg (· ++ _) (congrArg (fun p => p.link.tx) (port_completeClearing n n s0))
  · rw [erasedAllAt_of_inService (s := s0) hserves]
    have hstate : ((eraseEverything n s0).lane n).state = .idle := lane_screenErased_state (s := s0) hserves
    obtain ⟨hmgmt, hsticky⟩ := screenErased_quiet (s := s0) (bound_of_readyScreen (s := s) h) (roomAt_of_ready h.1)
    obtain ⟨hothers, hkeys, hrest⟩ := (eraseEverything_work n s0).rest_replyOn hkept tag
      (.erasedAll .accepted ((eraseEverything n s0).lane n).state (some (s0.rel n).holdings))
    refine ⟨?_, ?_, fun hidle => ?_, ?_, fun m hm => ⟨(hothers m hm).1, (hothers m hm).2.1⟩, hkeys, ?_, ?_, hrest⟩
    · rw [lane_replyOn]; exact hstate
    · rw [rel_replyOn, eraseEverything, rel_setRel_same, rel_screenErased]; rfl
    · rw [lane_replyOn, eraseEverything, lane_setRel, screenErased_of_rest (s := s0) (congrArg LaneState.running hidle)]; rfl
    · rw [hstate]; exact link_replyOn_last ..
    · rw [replyOn_mgmt_screen]; exact hmgmt
    · rw [replyOn_sticky]; exact hsticky

/-! ## RESTORE LANE (R146, R147) -/

theorem exec_restoreLane {s : State} (tag lane : Byte) (h : s.ready .mgmt) :
    exec (.restoreLane .mgmt tag lane) s = .next (replyOn .mgmt tag (restoreLane lane (s.holding .mgmt))) :=
  exec_of_ready .mgmt tag (.restoreLane lane) s h

theorem mgmt_replyOn_mgmt (tag : Byte) (t : State) (rp : Reply) :
    (replyOn .mgmt tag (t, rp)).mgmt = { t.mgmt with tx := t.mgmt.tx ++ [.reply tag rp] } := rfl

theorem startClearing_work (n : LaneIx) (s : State) : LaneWork n s (startClearing n s) :=
  ⟨startClearing_local n s, startClearing_sends n s, (startClearing_retains n s).keys⟩

theorem startClearing_says {n : LaneIx} {s : State} {k : Nat} (hroom : s.roomAt n (k + 1)) : Says n s (startClearing n s)
    [.notice (.clear (s.lane n).wt (s.rel n).holdings ((s.rel n).outstanding.map (fun e => e.serial)))] :=
  ((Says.notify hroom _).trans (Says.setRel n _ _)).trans (Says.setLane n _ _)

/-- Settles O46, by the lane named and its state. -/
theorem restoreLaneStartsAClearing : Obligations.RestoreLaneStartsAClearing := by
  refine ⟨fun n tag lane s h hlane => ⟨fun hst hbound hf hplaces => ⟨_, exec_restoreLane tag lane h, ?_⟩,
    fun hrefused => (exec_restoreLane tag lane h).trans (congrArg _ ?_)⟩,
    fun tag lane s h hrange => (exec_restoreLane tag lane h).trans (congrArg _ ?_)⟩
  · let s0 := s.holding .mgmt
    have hroom : s0.roomAt n 1 := ⟨hf, hplaces⟩
    have hrestore : restoreLane lane s0 = (startClearing n s0, .restoreLane (s.rel n).holdings (s.lane n).wt) := by
      simp only [restoreLane, hlane]
      exact if_pos ⟨hst, hbound⟩
    have hsays := startClearing_says hroom
    obtain ⟨hothers, hkeys, -⟩ := (startClearing_work n s0).rest
    rw [hrestore]
    refine ⟨?_, ?_, ?_, ?_, fun m hm => ⟨?_, ?_, ?_⟩, ?_, replyOn_keepsRest tag _ h.2.2.2 (startClearing_sends n s0), ?_⟩
    · rw [lane_replyOn, lane_startClearing]; rfl
    · rw [rel_replyOn, rel_startClearing]; rfl
    · exact hsays.tx
    · rw [mgmt_replyOn_mgmt, hsays.mgmt]; rfl
    · rw [lane_replyOn]; exact (hothers m hm).1
    · rw [rel_replyOn]; exact (hothers m hm).2.1
    · rw [port_replyOn_mgmt]; exact (hothers m hm).2.2
    · rw [replyOn_keys]; exact hkeys
    · rw [replyOn_sticky]; exact hsays.sticky
  · have hrestore : restoreLane lane (s.holding .mgmt)
        = (s.holding .mgmt, .laneRefused 0x1A .wrongState (s.lane n).state (s.port n).view) := by
      simp only [restoreLane, hlane]
      refine if_neg fun hboth => ?_
      obtain ⟨hst, hbound⟩ := hboth
      rcases hrefused with hne | hunbound
      · exact hne hst
      · rw [port_holding, hunbound] at hbound; exact absurd hbound (by decide)
    rw [hrestore]
    exact replyOn_same .mgmt tag s _ h.2.2.2
  · have hrestore : restoreLane lane (s.holding .mgmt) = (s.holding .mgmt, .plain 0x1A .badField) := by
      rw [restoreLane, laneOf_of_out_of_range hrange]
      rfl
    rw [hrestore]
    exact replyOn_same .mgmt tag s _ h.2.2.2

end Sys2Proof.Machine
end


section
/-! PROOFS. Requests on screen ports: what they leave, their admission, and ANNOUNCE (R102, R104, R151, R165 to R168). -/

namespace Sys2Proof.Machine

/-! ## What a request on a screen port leaves (R165) -/

/-- Policy and parameters stay, and so do the other lanes, their items and ports: all that a request on screen port n leaves. -/
structure Leaves (n : LaneIx) (s t : State) : Prop extends Local n s t where
  policyLock : t.policyLock = s.policyLock
  mask : t.mask = s.mask
  clock : t.clock = s.clock
  framer : t.framer = s.framer
  supply : t.supply = s.supply
  entry : ∀ m, (t.port m).entry = (s.port m).entry
  params : ∀ m, LaneKeeps (s.lane m) (t.lane m)

theorem Leaves.refl (n : LaneIx) (s : State) : Leaves n s s :=
  ⟨Local.refl n s, rfl, rfl, rfl, rfl, rfl, fun _ => rfl, fun _ => ⟨rfl, rfl, rfl⟩⟩

theorem Leaves.trans {n : LaneIx} {s t u : State} (h : Leaves n s t) (k : Leaves n t u) : Leaves n s u where
  toLocal := h.toLocal.trans k.toLocal
  policyLock := k.policyLock.trans h.policyLock
  mask := k.mask.trans h.mask
  clock := k.clock.trans h.clock
  framer := k.framer.trans h.framer
  supply := k.supply.trans h.supply
  entry m := (k.entry m).trans (h.entry m)
  params m :=
    have ⟨h1, h2, h3⟩ := h.params m
    have ⟨k1, k2, k3⟩ := k.params m
    ⟨k1.trans h1, k2.trans h2, k3.trans h3⟩

theorem Sends.leaves {n : LaneIx} {s t : State} (h : Sends s t) (hl : Local n s t) : Leaves n s t :=
  ⟨hl, h.policyLock, h.mask, h.clock, h.framer, h.supply, h.entry, h.laneParams⟩

theorem setPort_leaves (s : State) (n : LaneIx) (p : ScreenPort) (h : p.entry = (s.port n).entry := by rfl) :
    Leaves n s (s.setPort n p) := by
  refine ⟨setPort_local s n p, rfl, rfl, rfl, rfl, rfl, fun m => ?_, fun _ => ⟨rfl, rfl, rfl⟩⟩
  by_cases hm : m = n
  · subst hm; rw [port_setPort_same, h]
  · rw [port_setPort_other _ _ hm]

theorem raise_leaves (n : LaneIx) (s : State) (e : Event) : Leaves n s (s.raise e) := (raise_sends s e).leaves (raise_local n s e)

theorem withKept_leaves (n : LaneIx) (s : State) (k : Option PortId) : Leaves n s { s with kept := k } :=
  ⟨⟨fun _ _ => rfl, fun _ _ => rfl, fun _ _ => rfl, fun _ => rfl⟩, rfl, rfl, rfl, rfl, rfl, fun _ => rfl, fun _ => ⟨rfl, rfl, rfl⟩⟩

theorem setLink_leaves (s : State) (n : LaneIx) (l : Link) : Leaves n s (s.setLink (.screen n) l) := setPort_leaves s n _

theorem frameError_leaves (n : LaneIx) (s : State) : Leaves n s (frameError (.screen n) s) := by
  rw [frameError_screen]
  have hset := setPort_leaves s n (s.port n).erred
  split
  · refine hset.trans ?_
    unfold degrade
    exact (setPort_leaves _ n _).trans (raise_leaves n _ _)
  · exact hset

theorem handle_leaves (n : LaneIx) (tag : Byte) (r : Request) (s : State) : Leaves n s (handle (.screen n) tag r s) := by
  have hbegin : Leaves n s (beginTaking (.screen n) s) := (setLink_leaves s n _).trans (withKept_leaves n _ _)
  have hanswer := (answerScreen_sends n r (beginTaking (.screen n) s)).leaves (answerScreen_local n r (beginTaking (.screen n) s))
  exact ((hbegin.trans hanswer).trans (setLink_leaves _ n _)).trans (withKept_leaves n _ _)

theorem takeRequest_leaves (n : LaneIx) (s : State) : Leaves n s (takeRequest (.screen n) s) := by
  unfold takeRequest
  split
  · split
    · exact handle_leaves n _ _ s
    · exact Leaves.refl n s
  · exact Leaves.refl n s

theorem enterBuffer_leaves (n : LaneIx) (tag : Byte) (r : Request) (s : State) : Leaves n s (enterBuffer (.screen n) tag r s) := by
  unfold enterBuffer
  split
  · exact setLink_leaves s n _
  · exact frameError_leaves n s

theorem arrive_leaves (n : LaneIx) (tag : Byte) (r : Request) (s : State) : Leaves n s (arrive (.screen n) tag r s) := by
  unfold arrive
  split
  · exact ((takeRequest_leaves n s).trans (enterBuffer_leaves n tag r _)).trans (takeRequest_leaves n _)
  · exact Leaves.refl n s

theorem leaves_of_exec {n : LaneIx} {tag : Byte} {r : Request} {s t : State}
    (h : exec (onPort (.screen n) tag r) s = .next t) : Leaves n s t := by
  rw [exec_onPort] at h
  obtain rfl := Host.Outcome.next.inj h
  exact arrive_leaves n tag r s

/-! ## Admission (R165, R166) -/

theorem underEntry_of_unbound {n : LaneIx} {s : State} (allows : Binding → Bool) (kind : Byte) (owner : State → State × Reply)
    (h : (s.port n).state.isBound = false) : underEntry n allows kind owner s = (s, refuseOnPort n kind .notBound s) := by
  rw [underEntry, h]
  rfl

theorem underEntry_of_denied {n : LaneIx} {s : State} {allows : Binding → Bool} (kind : Byte) (owner : State → State × Reply)
    (hbound : (s.port n).state.isBound = true) (h : allows (s.port n).entry = false) :
    underEntry n allows kind owner s = (s, refuseOnPort n kind .notPermitted s) := by
  rw [underEntry, hbound, h]
  rfl

theorem isBound_of_ne {st : PortState} (h : ∀ identity, st ≠ .bound identity) : st.isBound = false := by
  cases st with
  | bound identity => exact absurd rfl (h identity)
  | unbound => rfl
  | candidate => rfl

theorem isBound_of_eq {st : PortState} {identity : Identity} (h : st = .bound identity) : st.isBound = true := by rw [h]; rfl

/-- A management kind is refused on a screen port, whatever the port's state (R166). -/
theorem answerScreen_of_management {n : LaneIx} {r : Request} (s : State) (h : 0x10 ≤ r.kind.toNat) :
    answerScreen n r s = (s, refuseOnPort n r.kind .notPermitted s) := by
  cases r
  case announce | queueReel | stopShow | holdShow | resumeShow | erased | erasedAll | laneStatus | clockStatus =>
    simp [Request.kind] at h
  all_goals rfl

/-- Any kind but ANNOUNCE is refused on a port that is not bound (R165). -/
theorem answerScreen_of_unbound {n : LaneIx} {r : Request} {s : State} (h2 : 2 ≤ r.kind.toNat) (h9 : r.kind.toNat ≤ 9)
    (h : (s.port n).state.isBound = false) : answerScreen n r s = (s, refuseOnPort n r.kind .notBound s) := by
  cases r
  case queueReel | stopShow | holdShow | resumeShow | erased | erasedAll | laneStatus => exact underEntry_of_unbound _ _ _ h
  case clockStatus => exact underEntry_of_unbound _ _ (fun s => (s, .clockStatus (clockReport s))) h
  case announce => simp [Request.kind] at h2
  all_goals simp [Request.kind] at h9

theorem answerScreen_of_noShow {n : LaneIx} {r : Request} {s : State}
    (hkind : r.kind.toNat = 2 ∨ r.kind.toNat = 3 ∨ r.kind.toNat = 4 ∨ r.kind.toNat = 5) (hbound : (s.port n).state.isBound = true)
    (h : (s.port n).entry.admitsShow = false) : answerScreen n r s = (s, refuseOnPort n r.kind .notPermitted s) := by
  cases r
  case queueReel | stopShow | holdShow | resumeShow => exact underEntry_of_denied _ _ hbound h
  all_goals simp [Request.kind] at hkind

theorem answerScreen_of_noErased {n : LaneIx} {r : Request} {s : State} (hkind : r.kind.toNat = 6 ∨ r.kind.toNat = 7)
    (hbound : (s.port n).state.isBound = true) (h : (s.port n).entry.admitsErased = false) :
    answerScreen n r s = (s, refuseOnPort n r.kind .notPermitted s) := by
  cases r
  case erased | erasedAll => exact underEntry_of_denied _ _ hbound h
  all_goals simp [Request.kind] at hkind

theorem answerScreen_of_noQueries {n : LaneIx} {r : Request} {s : State} (hkind : r.kind.toNat = 8 ∨ r.kind.toNat = 9)
    (hbound : (s.port n).state.isBound = true) (h : (s.port n).entry.admitsQueries = false) :
    answerScreen n r s = (s, refuseOnPort n r.kind .notPermitted s) := by
  cases r
  case laneStatus => exact underEntry_of_denied _ _ hbound h
  case clockStatus => exact underEntry_of_denied _ (fun s => (s, .clockStatus (clockReport s))) hbound h
  all_goals simp [Request.kind] at hkind

theorem answerManagement_of_screen {r : Request} (s : State) (h : r.kind.toNat ≤ 7) :
    answerManagement r s = (s, .portRefusal r.kind .notPermitted none) := by
  cases r
  case announce | queueReel | stopShow | holdShow | resumeShow | erased | erasedAll => rfl
  all_goals simp [Request.kind] at h

/-- Settles O12: the frame of every request on a screen port, and its admission kind by kind. -/
theorem screenRequestsLeavePolicyAndOtherLanes : Obligations.ScreenRequestsLeavePolicyAndOtherLanes := by
  refine ⟨fun n tag r s t hexec => ?_, fun n m tag r s t hm hexec => ?_, fun n tag r s h => ?_,
    fun tag r s h hkind => exec_of_reply tag h (answerManagement_of_screen _ hkind)⟩
  · have hleaves := leaves_of_exec hexec
    exact ⟨hleaves.policyLock, hleaves.mask, hleaves.clock, hleaves.framer, hleaves.supply, hleaves.entry, hleaves.params, hleaves.key⟩
  · have hleaves := leaves_of_exec hexec
    exact ⟨hleaves.lane m hm, hleaves.rel m hm, hleaves.port m hm⟩
  · intro refusedWith entry
    refine ⟨fun hkind => exec_of_reply tag h (answerScreen_of_management _ hkind),
      fun h2 h9 hunbound => exec_of_reply tag h (answerScreen_of_unbound h2 h9 (isBound_of_ne hunbound)), fun identity hst => ?_⟩
    have hbound : ((s.holding (.screen n)).port n).state.isBound = true := isBound_of_eq hst
    refine ⟨fun hkind hentry => exec_of_reply tag h (answerScreen_of_noShow hkind hbound ?_),
      fun hkind hentry => exec_of_reply tag h (answerScreen_of_noErased hkind hbound (beq_eq_false_iff_ne.mpr hentry)),
      fun hkind hentry => exec_of_reply tag h (answerScreen_of_noQueries hkind hbound ?_)⟩
    · rw [Binding.admitsShow, Bool.and_eq_false_iff, beq_eq_false_iff_ne]
      exact hentry
    · rw [Binding.admitsQueries, Bool.and_eq_false_iff, bne_eq_false_iff_eq]
      exact hentry

/-! ## ANNOUNCE (R167) -/

theorem exec_announce {n : LaneIx} {s : State} (tag : Byte) (identity : Identity) (h : s.ready (.screen n)) :
    exec (.announce (.screen n) tag identity) s
      = .next (replyOn (.screen n) tag (announce n identity 0x01 (s.holding (.screen n)))) :=
  exec_of_ready (.screen n) tag (.announce identity) s h

theorem announce_of_unbound {n : LaneIx} {identity : Identity} {kind : Byte} {s : State} (h : (s.port n).state.isBound = false) :
    announce n identity kind s = judgeAnnounce n identity kind s := by
  unfold announce
  split
  · next old hst => rw [hst] at h; exact Bool.noConfusion h
  · rfl

/-- An ANNOUNCE that the entry matches counts, and the third in a row binds (R167). -/
theorem judgeAnnounce_of_matches {n : LaneIx} {identity : Identity} {kind : Byte} {s : State} (hrole : (s.port n).entry.role ≠ .disabled)
    (hmatches : (s.port n).entry.matches identity = true) : judgeAnnounce n identity kind s =
      let judged := match (s.port n).state.announced identity with
        | some st => s.setPortState n st
        | none => bindPort n identity s
      (judged, .announce (judged.port n).view) := by
  have hno : ¬ ((s.port n).entry.role = .disabled ∨ (s.port n).entry.matches identity = false) := by
    rintro (h | h)
    · exact hrole h
    · rw [hmatches] at h; exact absurd h (by decide)
  simp only [judgeAnnounce, if_neg hno] <;> rfl

theorem judgeAnnounce_of_counted {n : LaneIx} {identity : Identity} {kind : Byte} {s : State} {st : PortState}
    (hrole : (s.port n).entry.role ≠ .disabled) (hmatches : (s.port n).entry.matches identity = true)
    (h : (s.port n).state.announced identity = some st) :
    judgeAnnounce n identity kind s = (s.setPortState n st, .announce { s.port n with state := st }.view) := by
  rw [judgeAnnounce_of_matches hrole hmatches, h]
  dsimp only
  rw [State.setPortState, port_setPort_same]

theorem judgeAnnounce_of_third {n : LaneIx} {identity : Identity} {kind : Byte} {s : State}
    (hrole : (s.port n).entry.role ≠ .disabled) (hmatches : (s.port n).entry.matches identity = true)
    (h : (s.port n).state.announced identity = none) :
    judgeAnnounce n identity kind s = (bindPort n identity s, .announce ((bindPort n identity s).port n).view) := by
  rw [judgeAnnounce_of_matches hrole hmatches, h]

/-- An ANNOUNCE that counts changes its port's state alone. -/
theorem exec_announce_of_counted {n : LaneIx} {identity : Identity} {s : State} {st : PortState} (tag : Byte)
    (h : s.ready (.screen n)) (hrole : (s.port n).entry.role ≠ .disabled) (hmatches : (s.port n).entry.matches identity = true)
    (hunbound : (s.port n).state.isBound = false) (hst : (s.port n).state.announced identity = some st) :
    exec (.announce (.screen n) tag identity) s
      = .next ((s.setPortState n st).place (.screen n) (.reply tag (.announce { s.port n with state := st }.view))) := by
  refine exec_of_answer (r := .announce identity) (t := s.setPortState n st) tag h ?_ h.2.2.2
  exact (announce_of_unbound (s := s.holding (.screen n)) hunbound).trans
    (judgeAnnounce_of_counted (s := s.holding (.screen n)) hrole hmatches hst)

theorem bindPort_of_screen {n : LaneIx} {identity : Identity} {s : State} (h : (s.port n).entry.role = .screen) :
    bindPort n identity s = laneBind n ((s.setPortState n (.bound identity)).raise (.portBound n identity .screen)) := by
  have hrole : ((s.setPortState n (.bound identity)).port n).entry.role = .screen := by
    rw [State.setPortState, port_setPort_same]; exact h
  simp only [bindPort, hrole, if_true]

theorem portState_laneBind (n m : LaneIx) (s : State) : ((laneBind n s).port m).state = (s.port m).state := by
  unfold laneBind startClearing
  split
  · split
    · simp
    · rfl
  · rfl

theorem rel_laneBind_of_clear {n : LaneIx} {s : State} (hst : (s.lane n).state = .offline) (h : (s.rel n).clearRequired = false) :
    laneBind n s = s.setLane n { s.lane n with state := .idle } := by
  simp only [laneBind, hst, h, if_true, Bool.false_eq_true, if_false]

theorem laneBind_of_marked {n : LaneIx} {s : State} (hst : (s.lane n).state = .offline) (h : (s.rel n).clearRequired = true) :
    laneBind n s = startClearing n s := by
  simp only [laneBind, hst, h, if_true]

theorem announced_of_first {st : PortState} {identity : Identity}
    (h : st = .unbound ∨ ∃ known count spacing, st = .candidate known count spacing ∧ (known ≠ identity ∨ 2 < spacing)) :
    st.isBound = false ∧ st.announced identity = some (.candidate identity 1 0) := by
  rcases h with rfl | ⟨known, count, spacing, rfl, hafresh⟩
  · exact ⟨rfl, rfl⟩
  · refine ⟨rfl, if_neg ?_⟩
    rintro ⟨hknown, hspacing⟩
    rcases hafresh with hother | hlate
    · exact hother hknown
    · omega

/-- Settles O18: the count by the port's state, and the bind notice by the lane's mark. -/
theorem announceCountsAndBinds : Obligations.AnnounceCountsAndBinds := by
  refine ⟨fun n tag identity s h hrole hmatches => ⟨fun hfirst => ?_, fun spacing hst hspacing => ?_⟩,
    fun n tag identity spacing s h hrole hmatches hst hspacing hlane => ⟨_, exec_announce tag identity h, ?_⟩⟩
  · obtain ⟨hunbound, hcount⟩ := announced_of_first hfirst
    exact exec_announce_of_counted tag h hrole hmatches hunbound hcount
  · refine exec_announce_of_counted tag h hrole hmatches (by rw [hst]; rfl) ?_
    simp [PortState.announced, hst, hspacing]
  · let s0 := s.holding (.screen n)
    have hthird : (s.port n).state.announced identity = none := by simp [PortState.announced, hst, hspacing]
    have hannounce : announce n identity 0x01 s0 = (bindPort n identity s0, .announce ((bindPort n identity s0).port n).view) := by
      rw [announce_of_unbound (s := s0) (by rw [show (s0.port n).state = _ from hst]; rfl)]
      exact judgeAnnounce_of_third (s := s0) (by rw [show (s0.port n).entry.role = _ from hrole]; decide) hmatches hthird
    have hsends := bindPort_sends n identity s0
    have hlocal := announce_local n identity 0x01 s0
    have hretains := announce_retains n identity 0x01 s0
    rw [hannounce] at hlocal hretains ⊢
    let bound := (s0.setPortState n (.bound identity)).raise (.portBound n identity .screen)
    have hbind : bindPort n identity s0 = laneBind n bound := bindPort_of_screen hrole
    have hboundState : (bound.port n).state = .bound identity := by
      rw [port_raise, State.setPortState, port_setPort_same]
    have hstate : ((bindPort n identity s0).port n).state = .bound identity := by
      rw [hbind, portState_laneBind, hboundState]
    have hlane0 : bound.lane n = s.lane n := by rw [lane_raise]; rfl
    have hrel0 : bound.rel n = s.rel n := by rw [rel_raise]; rfl
    have hview : ((bindPort n identity s0).port n).view = { state := 2, role := 1, count := 0 } := by
      rw [ScreenPort.view, hstate, hsends.entry n, show (s0.port n).entry.role = .screen from hrole]
      rfl
    refine ⟨?_, ?_, ?_, ⟨fun hclear => ?_, fun hmarked => ?_⟩, fun m hm => ⟨?_, ?_⟩, ?_, replyOn_keepsRest tag _ h.2.2.2 hsends⟩
    · rw [portState_replyOn, hstate]
    · rw [replyOn_sticky, hbind]
      exact (laneBind_sends n bound).sticky _ (raise_sticky _ _ (running_of_readyScreen (s := s) h))
    · rw [hview]; exact link_replyOn_last ..
    · rw [lane_replyOn, rel_replyOn, hbind, rel_laneBind_of_clear (hlane0 ▸ hlane) (hrel0 ▸ hclear), lane_setLane_same, rel_setLane]
      exact ⟨rfl, hrel0⟩
    · rw [lane_replyOn, rel_replyOn, hbind, laneBind_of_marked (hlane0 ▸ hlane) (hrel0 ▸ hmarked), lane_startClearing,
        rel_startClearing, hlane0, hrel0]
      exact ⟨rfl, rfl⟩
    · rw [lane_replyOn]; exact hlocal.lane m hm
    · rw [rel_replyOn]; exact hlocal.rel m hm
    · rw [replyOn_keys]; exact hretains.keys

/-! ## Another identity (R104, R168) -/

theorem port_identityChange (n m : LaneIx) (s : State) : (identityChange n s).port m = s.port m := by
  unfold identityChange
  split
  · rfl
  · split
    · rfl
    · rw [recordQuarantine, port_raise]; rfl

/-- A lane whose port's identity has changed: its show is over without a notice (R104). -/
theorem lane_identityChange {n : LaneIx} {s : State} (h : (s.lane n).state ≠ .quarantine) : (identityChange n s).lane n
    = (s.lane n).endedIn (if (s.rel n).holdings = [] then .offline else .quarantine) := by
  rw [identityChange, if_neg h]
  simp only [List.isEmpty_iff]
  split
  · rw [dropShow_eq, cancelDeadlines_eq, lane_setRel, lane_setLane_same]
  · rw [recordQuarantine, lane_raise, dropShow_eq, cancelDeadlines_eq, lane_setRel, lane_setLane_same]

theorem port_unbindForIdentity (n : LaneIx) (old : Identity) (s : State) :
    (unbindForIdentity n old s).port n = { s.port n with state := .unbound } := by
  have hunbound : ((s.setPortState n .unbound).raise (.portUnbound n .identityChange old)).port n
      = { s.port n with state := .unbound } := by
    rw [port_raise, State.setPortState, port_setPort_same]
  unfold unbindForIdentity
  dsimp only
  split
  · rw [port_identityChange, hunbound]
  · exact hunbound

/-- An ANNOUNCE judged on an unbound port writes the port's state alone. -/
theorem judgeAnnounce_of_unbound {n : LaneIx} {identity : Identity} {kind : Byte} {s : State} (h : (s.port n).state = .unbound)
    (hrole : (s.port n).entry.role ≠ .disabled) : ∃ rp, judgeAnnounce n identity kind s =
      (s.setPortState n (if (s.port n).entry.matches identity = true then .candidate identity 1 0 else .unbound), rp) := by
  by_cases hmatches : (s.port n).entry.matches identity = true
  · rw [if_pos hmatches]
    exact ⟨_, judgeAnnounce_of_counted hrole hmatches (by rw [h]; rfl)⟩
  · rw [if_neg hmatches]
    refine ⟨refuseOnPort n kind .notPermitted (s.setPortState n .unbound), ?_⟩
    rw [judgeAnnounce]
    dsimp only
    rw [if_pos (.inr (Bool.eq_false_iff.mpr hmatches))]

/-- Settles O19: the port unbound, the lane's show dropped, and the new identity judged. -/
theorem identityChangeCostsTheLane : Obligations.IdentityChangeCostsTheLane := by
  intro n tag old identity s h hrole hst hother hlane
  refine ⟨_, exec_announce tag identity h, ?_⟩
  let s0 := s.holding (.screen n)
  let raised := (s0.setPortState n .unbound).raise (.portUnbound n .identityChange old)
  let unbound := unbindForIdentity n old s0
  have hunbind : unbound = identityChange n raised := by
    simp only [unbound, unbindForIdentity, show (s0.port n).entry.role = .screen from hrole, if_true]
    rfl
  have hport : unbound.port n = { s.port n with state := .unbound } := port_unbindForIdentity n old s0
  have hlane0 : raised.lane n = s.lane n := by rw [lane_raise]; rfl
  have hrel0 : raised.rel n = s.rel n := by rw [rel_raise]; rfl
  have hended : unbound.lane n = (s.lane n).endedIn (if (s.rel n).holdings = [] then .offline else .quarantine) := by
    rw [hunbind, lane_identityChange (hlane0 ▸ hlane), hlane0, hrel0]
  have hretains := announce_retains n identity 0x01 s0
  have hsends := announce_sends n identity 0x01 s0
  have hlocal := announce_local n identity 0x01 s0
  obtain ⟨rp, hjudge⟩ := judgeAnnounce_of_unbound (n := n) (identity := identity) (kind := 0x01) (s := unbound)
    (by rw [hport]) (by rw [hport, show (s.port n).entry.role = .screen from hrole]; decide)
  have hannounce : announce n identity 0x01 s0 = judgeAnnounce n identity 0x01 unbound := by
    unfold announce
    simp only [show (s0.port n).state = .bound old from hst, if_neg hother]
    rfl
  rw [hannounce, hjudge, hport] at hretains hsends hlocal ⊢
  refine ⟨?_, ?_, ?_, ?_, ?_, ?_, ⟨rp, ?_⟩, fun m hm => ⟨?_, ?_⟩, ?_, replyOn_keepsRest tag _ h.2.2.2 hsends⟩
  · rw [portState_replyOn, State.setPortState, port_setPort_same]
  · rw [lane_replyOn, State.setPortState, lane_setPort, hended]; rfl
  · rw [lane_replyOn, State.setPortState, lane_setPort, hended]; rfl
  · rw [lane_replyOn, State.setPortState, lane_setPort, hended]; rfl
  · rw [rel_replyOn, hretains.holdings]; rfl
  · have hflag : raised.sticky.getLsbD EventKind.portUnbound.code = true :=
      raise_sticky _ _ (running_of_readyScreen (s := s) h)
    rw [replyOn_sticky, State.setPortState, setPort_sticky, hunbind]
    exact (identityChange_sends n raised).sticky _ hflag
  · rw [link_replyOn_same]
    refine congrArg (· ++ _) ?_
    change ((unbound.setPortState n _).port n).link.tx = _
    rw [State.setPortState, port_setPort_same, hport]
    rfl
  · rw [lane_replyOn]; exact hlocal.lane m hm
  · rw [rel_replyOn]; exact hlocal.rel m hm
  · rw [replyOn_keys]; exact hretains.keys

end Sys2Proof.Machine
end


section
/-! PROOFS. SET PORT and LOCK POLICY (R102, R103, R151, R169, R170). -/

namespace Sys2Proof.Machine

theorem exec_setPort {s : State} (tag port : Byte) (identity : Option Identity) (role classes : Byte) (h : s.ready .mgmt) :
    exec (.setPort .mgmt tag port identity role classes) s
      = .next (replyOn .mgmt tag (setPort port identity role classes 0x14 (s.holding .mgmt))) :=
  exec_of_ready .mgmt tag (.setPort port identity role classes) s h

section judged

variable {n : LaneIx} {port role classes kind : Byte} {identity : Option Identity} {r : Role} {s : State}

theorem setPort_of_range (hlane : laneOf port = some n) (hf : s.isFitted n = true) (hrole : roleOf role = some r)
    (hclasses : classes.toNat < 4) : setPort port identity role classes kind s =
      if s.policyLock = true then (s, refuseSetPort n .locked s)
      else if (s.lane n).state.running = true then (s, refuseSetPort n .wrongState s)
      else
        let judged := rejudgePort n (s.port n).entry.role (s.setPort n { s.port n with entry := entryOf identity r classes })
        (judged, .setPort (entryOf identity r classes) (judged.port n).view) := by
  simp only [setPort, hlane, hf, hrole, classesInRange, hclasses, decide_true]

theorem setPort_of_running (hlane : laneOf port = some n) (hf : s.isFitted n = true) (hrole : roleOf role = some r)
    (hclasses : classes.toNat < 4) (hlock : s.policyLock = false) (hrun : (s.lane n).state.running = true) :
    setPort port identity role classes kind s = (s, refuseSetPort n .wrongState s) := by
  rw [setPort_of_range hlane hf hrole hclasses, if_neg (by rw [hlock]; exact Bool.false_ne_true), if_pos hrun]

theorem setPort_of_locked (hlane : laneOf port = some n) (hf : s.isFitted n = true) (hrole : roleOf role = some r)
    (hclasses : classes.toNat < 4) (hlock : s.policyLock = true) :
    setPort port identity role classes kind s = (s, refuseSetPort n .locked s) := by
  rw [setPort_of_range hlane hf hrole hclasses, if_pos hlock]

theorem setPort_of_judged (hlane : laneOf port = some n) (hf : s.isFitted n = true) (hrole : roleOf role = some r)
    (hclasses : classes.toNat < 4) (hlock : s.policyLock = false) (hrun : (s.lane n).state.running = false) :
    setPort port identity role classes kind s =
      let judged := rejudgePort n (s.port n).entry.role (s.setPort n { s.port n with entry := entryOf identity r classes })
      (judged, .setPort (entryOf identity r classes) (judged.port n).view) := by
  rw [setPort_of_range hlane hf hrole hclasses, if_neg (by rw [hlock]; exact Bool.false_ne_true),
    if_neg (by rw [hrun]; exact Bool.false_ne_true)]

theorem setPort_of_badField (hlane : laneOf port = some n) (h : s.isFitted n = false ∨ roleOf role = none ∨ 4 ≤ classes.toNat) :
    setPort port identity role classes kind s = (s, refuseSetPort n .badField s) := by
  simp only [setPort, hlane]
  split
  · next hf hrole hclasses =>
    rcases h with h | h | h
    · rw [h] at hf; exact absurd hf (by decide)
    · rw [h] at hrole; exact absurd hrole nofun
    · exact absurd (of_decide_eq_true hclasses) (Nat.not_lt.mpr h)
  · rfl

end judged

section rejudged

variable {n : LaneIx} {old : Role} {known : Identity} {s : State}

theorem rejudgePort_of_unbound (h : (s.port n).state = .unbound) : rejudgePort n old s = s := by
  simp only [rejudgePort, h]

theorem rejudgePort_of_candidate {count spacing : Nat} (h : (s.port n).state = .candidate known count spacing) :
    rejudgePort n old s = if (s.port n).entry.role ≠ .disabled ∧ (s.port n).entry.matches known = true then s
      else s.setPortState n .unbound := by
  simp only [rejudgePort, h]

theorem rejudgePort_of_bound (h : (s.port n).state = .bound known) : rejudgePort n old s = rejudgeBound n old known s := by
  simp only [rejudgePort, h]

/-- An entry that admits its port's identity no more unbinds it (R103, R169). -/
theorem rejudgeBound_of_refused (h : (s.port n).entry.role = .disabled ∨ (s.port n).entry.matches known = false) :
    rejudgeBound n old known s =
      if old = .screen then laneUnbind n ((s.setPortState n .unbound).raise (.portUnbound n .setPort known))
      else (s.setPortState n .unbound).raise (.portUnbound n .setPort known) := by
  simp only [rejudgeBound, if_pos h]

theorem rejudgeBound_of_matches (hrole : (s.port n).entry.role ≠ .disabled) (hmatches : (s.port n).entry.matches known = true) :
    rejudgeBound n old known s =
      if old = .screen ∧ (s.port n).entry.role = .observer then laneUnbind n s
      else if old = .observer ∧ (s.port n).entry.role = .screen then laneBind n s else s := by
  have hno : ¬ ((s.port n).entry.role = .disabled ∨ (s.port n).entry.matches known = false) := by
    rintro (h | h)
    · exact hrole h
    · rw [hmatches] at h; exact absurd h (by decide)
  simp only [rejudgeBound, if_neg hno]

end rejudged

theorem rejudgeBound_work (n : LaneIx) (old : Role) (known : Identity) (s : State) :
    LaneWork n s (rejudgeBound n old known s) := by
  have hset : LaneWork n s (s.setPortState n .unbound) := ⟨setPort_local s n _, setPortState_sends s n _, rfl⟩
  have hraise := hset.trans (raise_work n _ (.portUnbound n .setPort known))
  have hlane (t : State) : LaneWork n t (laneUnbind n t) :=
    ⟨laneUnbind_local n t, laneUnbind_sends n t, (laneUnbind_retains n t).keys⟩
  unfold rejudgeBound
  dsimp only
  split
  · split
    · exact hraise.trans (hlane _)
    · exact hraise
  · split
    · exact hlane s
    · split
      · exact ⟨laneBind_local n s, laneBind_sends n s, (laneBind_retains n s).keys⟩
      · exact LaneWork.refl n s

/-- The items of a lane whose port is unbound (R103, R151). -/
def Release.unbound (r : Release) : Release :=
  { r with
    outstanding := r.outstanding.map (fun e => { e with countdown := none }), clearing := none
    clearRequired := r.clearRequired || !r.holdings.isEmpty }

theorem laneUnbind_eq_offline (n : LaneIx) (s : State) :
    laneUnbind n s = (s.setLane n ((s.lane n).endedIn .offline)).setRel n (s.rel n).unbound := by
  rw [laneUnbind_eq]
  rfl

/-- What becomes of a bound port whose entry admits its identity no more, and of its lane (R103, R169). -/
theorem rejudgeBound_lost {n : LaneIx} {old : Role} {known : Identity} {s : State} (hrunning : s.running = true)
    (h : (s.port n).entry.role = .disabled ∨ (s.port n).entry.matches known = false) :
    (rejudgeBound n old known s).port n = { s.port n with state := .unbound }
      ∧ (rejudgeBound n old known s).sticky.getLsbD EventKind.portUnbound.code = true
      ∧ (old = .screen → (rejudgeBound n old known s).lane n = (s.lane n).endedIn .offline
          ∧ (rejudgeBound n old known s).rel n = (s.rel n).unbound)
      ∧ (old ≠ .screen → (rejudgeBound n old known s).lane n = s.lane n ∧ (rejudgeBound n old known s).rel n = s.rel n) := by
  let raised := (s.setPortState n .unbound).raise (.portUnbound n .setPort known)
  have hport : raised.port n = { s.port n with state := .unbound } := by
    rw [port_raise, State.setPortState, port_setPort_same]
  have hflag : raised.sticky.getLsbD EventKind.portUnbound.code = true := raise_sticky _ _ hrunning
  have hlane : raised.lane n = s.lane n := by rw [lane_raise]; rfl
  have hrel : raised.rel n = s.rel n := by rw [rel_raise]; rfl
  rw [rejudgeBound_of_refused h]
  split
  · next hscreen =>
    rw [laneUnbind_eq_offline]
    refine ⟨hport, hflag, fun _ => ⟨?_, ?_⟩, fun hno => absurd hscreen hno⟩
    · rw [lane_setRel, lane_setLane_same, hlane]
    · rw [rel_setRel_same, hrel]
  · next hno => exact ⟨hport, hflag, fun h => absurd h hno, fun _ => ⟨hlane, hrel⟩⟩

/-- A port with an entry written (R169). -/
def State.withEntry (s : State) (n : LaneIx) (entry : Binding) : State := s.setPort n { s.port n with entry := entry }

theorem port_withEntry (s : State) (n : LaneIx) (entry : Binding) :
    (s.withEntry n entry).port n = { s.port n with entry := entry } := port_setPort_same ..

theorem bound_view {p : ScreenPort} {known : Identity} (h : p.state = .bound known) :
    p.view = { state := 2, role := p.entry.role.code, count := 0 } := by
  rw [ScreenPort.view, h]
  rfl

theorem unbound_view {p : ScreenPort} (h : p.state = .unbound) : p.view = { state := 0, role := 0, count := 0 } := by
  rw [ScreenPort.view, h]
  rfl

theorem candidate_view {p : ScreenPort} {known : Identity} {count spacing : Nat} (h : p.state = .candidate known count spacing) :
    p.view = { state := 1, role := 0, count := count } := by
  rw [ScreenPort.view, h]
  rfl

theorem port_written (s : State) (n : LaneIx) (e : Binding) :
    ((s.withEntry n e).holding .mgmt).port n = { s.port n with entry := e } := port_withEntry s n e

section answered

variable {n : LaneIx} {tag port role classes : Byte} {identity : Option Identity} {r : Role} {s : State} (h : s.ready .mgmt)
  (hlane : laneOf port = some n) (hf : s.isFitted n = true) (hrole : roleOf role = some r) (hclasses : classes.toNat < 4)
  (hlock : s.policyLock = false) (hrun : (s.lane n).state.running = false)
include h hlane hf hrole hclasses hlock hrun

/-- A SET PORT that is judged to `t`, the reply last. -/
theorem exec_setPort_of_judged {t : State} {view : PortView}
    (hjudge : rejudgePort n (s.port n).entry.role ((s.withEntry n (entryOf identity r classes)).holding .mgmt) = t.holding .mgmt)
    (hkept : t.kept = none) (hview : (t.port n).view = view) : exec (.setPort .mgmt tag port identity role classes) s
      = .next (t.place .mgmt (.reply tag (.setPort (entryOf identity r classes) view))) := by
  have hset : setPort port identity role classes 0x14 (s.holding .mgmt)
      = (t.holding .mgmt, .setPort (entryOf identity r classes) view) := by
    have hjudge' : rejudgePort n ((s.holding .mgmt).port n).entry.role ((s.holding .mgmt).setPort n
        { (s.holding .mgmt).port n with entry := entryOf identity r classes }) = t.holding .mgmt := hjudge
    refine (setPort_of_judged (s := s.holding .mgmt) hlane hf hrole hclasses hlock hrun).trans ?_
    dsimp only
    rw [hjudge', ← hview]
    rfl
  rw [exec_setPort tag port identity role classes h, hset]
  exact congrArg _ (replyOn_same .mgmt tag t _ hkept)

/-- A SET PORT of a bound port that goes on being bound (R102, R169). -/
theorem exec_setPort_of_bound {known : Identity} {t : State} (hst : (s.port n).state = .bound known) (hr : r ≠ .disabled)
    (hmatches : (entryOf identity r classes).matches known = true)
    (hjudge : (if (s.port n).entry.role = .screen ∧ r = .observer then laneUnbind n ((s.withEntry n (entryOf identity r classes)).holding .mgmt)
      else if (s.port n).entry.role = .observer ∧ r = .screen then laneBind n ((s.withEntry n (entryOf identity r classes)).holding .mgmt)
      else (s.withEntry n (entryOf identity r classes)).holding .mgmt) = t.holding .mgmt)
    (hkept : t.kept = none) (hentry : (t.port n).entry = entryOf identity r classes) (hstate : (t.port n).state = .bound known) :
    exec (.setPort .mgmt tag port identity role classes) s = .next (t.place .mgmt (.reply tag
      (.setPort (entryOf identity r classes) { state := 2, role := r.code, count := 0 }))) := by
  have hport := port_written s n (entryOf identity r classes)
  refine exec_setPort_of_judged h hlane hf hrole hclasses hlock hrun ?_ hkept ?_
  · rw [rejudgePort_of_bound (known := known) (by rw [hport]; exact hst),
      rejudgeBound_of_matches (by rw [hport]; exact hr) (by rw [hport]; exact hmatches), hport]
    exact hjudge
  · rw [bound_view hstate, hentry]
    rfl

/-- A SET PORT that unbinds a bound port (R103, R169). -/
theorem exec_setPort_of_lost {known : Identity} (hst : (s.port n).state = .bound known)
    (hno : r = .disabled ∨ (entryOf identity r classes).matches known = false) :
    exec (.setPort .mgmt tag port identity role classes) s = .next (replyOn .mgmt tag
      (rejudgeBound n (s.port n).entry.role known ((s.withEntry n (entryOf identity r classes)).holding .mgmt),
        .setPort (entryOf identity r classes) { state := 0, role := 0, count := 0 })) := by
  have hport := port_written s n (entryOf identity r classes)
  obtain ⟨hportEnd, -⟩ := rejudgeBound_lost (n := n) (old := (s.port n).entry.role) (known := known)
    (s := (s.withEntry n (entryOf identity r classes)).holding .mgmt) (running_of_ready (s := s) h) (by rw [hport]; exact hno)
  let judged := rejudgePort n (s.port n).entry.role ((s.withEntry n (entryOf identity r classes)).holding .mgmt)
  have hjudged : judged = rejudgeBound n (s.port n).entry.role known ((s.withEntry n (entryOf identity r classes)).holding .mgmt) :=
    rejudgePort_of_bound (by rw [hport]; exact hst)
  have hset : setPort port identity role classes 0x14 (s.holding .mgmt)
      = (judged, .setPort (entryOf identity r classes) (judged.port n).view) :=
    setPort_of_judged (s := s.holding .mgmt) hlane hf hrole hclasses hlock hrun
  rw [unbound_view (p := judged.port n) (by rw [hjudged, hportEnd]), hjudged] at hset
  rw [exec_setPort tag port identity role classes h, hset]

end answered

/-- A clearing of lane n started, its CLEAR placed (R146). -/
def State.clearingOf (s : State) (n : LaneIx) : State :=
  (((s.place (.screen n) (.notice (.clear (s.lane n).wt (s.rel n).holdings ((s.rel n).outstanding.map (fun e => e.serial))))).setRel n
    { s.rel n with clearing := some (s.lane n).wt }).setLane n { s.lane n with state := .clearing })

theorem startClearing_of_roomAt {n : LaneIx} {s : State} {k : Nat} (hroom : s.roomAt n (k + 1)) :
    startClearing n s = s.clearingOf n := by
  have hnotify := notify_of_roomAt hroom (.clear (s.lane n).wt (s.rel n).holdings ((s.rel n).outstanding.map (fun e => e.serial)))
  simp only [startClearing, hnotify, lane_setRel, lane_place, rel_place]
  rfl

theorem clearingOf_holding (s : State) (n : LaneIx) : (s.holding .mgmt).clearingOf n = (s.clearingOf n).holding .mgmt := rfl

theorem port_clearingOf (s : State) (n : LaneIx) : ((s.clearingOf n).port n).entry = (s.port n).entry
    ∧ ((s.clearingOf n).port n).state = (s.port n).state := by
  obtain ⟨hentry, hstate, -⟩ := port_place_items s (.screen n)
    (.notice (.clear (s.lane n).wt (s.rel n).holdings ((s.rel n).outstanding.map (fun e => e.serial)))) n
  exact ⟨hentry, hstate⟩

/-- Settles O20: by the port's state, and for a bound port by what becomes of its role. -/
theorem setPortWritesUntilLocked : Obligations.SetPortWritesUntilLocked := by
  refine ⟨?judged, ?badField, ?locked⟩
  case judged =>
    intro n tag port role classes identity r entry s written h hlane hf hrole hclasses hlock hentry hwritten
    subst hentry
    let e : Binding := entryOf identity r classes
    have hw : written = s.withEntry n e := hwritten
    subst hw
    have hkept : s.kept = none := h.2.2.2
    intro cmd replied offline unbound
    have hport : (s.withEntry n e).port n = { s.port n with entry := e } := port_withEntry s n e
    have hport0 : ((s.withEntry n e).holding .mgmt).port n = { s.port n with entry := e } := hport
    refine ⟨fun hrun => ?running, fun hrun => ⟨fun hst => ?unbound, fun known count spacing hst => ⟨fun hr hmatches => ?stays,
      fun hno => ?leaves⟩, fun known hst => ⟨fun hsame hr hmatches => ?same, fun hno => ?ends, fun hold hr hmatches => ?observes,
      fun hold hr hmatches => ?shows⟩⟩⟩
    case running =>
      rw [exec_setPort tag port identity role classes h,
        setPort_of_running (s := s.holding .mgmt) hlane hf hrole hclasses hlock hrun]
      exact congrArg _ (replyOn_same .mgmt tag s _ hkept)
    case unbound =>
      refine exec_setPort_of_judged h hlane hf hrole hclasses hlock hrun (t := s.withEntry n e) ?_ hkept ?_
      · exact rejudgePort_of_unbound (by rw [hport0]; exact hst)
      · exact unbound_view (by rw [hport]; exact hst)
    case stays =>
      refine exec_setPort_of_judged h hlane hf hrole hclasses hlock hrun (t := s.withEntry n e) ?_ hkept ?_
      · rw [rejudgePort_of_candidate (by rw [hport0]; exact hst), hport0]
        exact if_pos ⟨hr, hmatches⟩
      · exact candidate_view (by rw [hport]; exact hst)
    case leaves =>
      refine exec_setPort_of_judged h hlane hf hrole hclasses hlock hrun (t := (s.withEntry n e).setPortState n .unbound) ?_ hkept ?_
      · rw [rejudgePort_of_candidate (by rw [hport0]; exact hst), hport0]
        refine if_neg fun hboth => ?_
        obtain ⟨hr, hmatches⟩ := hboth
        rcases hno with hno | hno
        · exact hr hno
        · exact absurd (hno.symm.trans hmatches) Bool.false_ne_true
      · exact unbound_view (by rw [State.setPortState, port_setPort_same])
    case same =>
      refine exec_setPort_of_bound h hlane hf hrole hclasses hlock hrun (t := s.withEntry n e) hst hr hmatches ?_ hkept ?_ ?_
      · rw [if_neg (by rintro ⟨h1, h2⟩; exact absurd ((hsame.trans h1).symm.trans h2) (by decide)),
          if_neg (by rintro ⟨h1, h2⟩; exact absurd ((hsame.trans h1).symm.trans h2) (by decide))]
      · rw [hport]
      · rw [hport]; exact hst
    case ends =>
      have hwork := rejudgeBound_work n (s.port n).entry.role known ((s.withEntry n e).holding .mgmt)
      obtain ⟨hportEnd, hflag, hscreen, hother⟩ := rejudgeBound_lost (n := n) (old := (s.port n).entry.role) (known := known)
        (s := (s.withEntry n e).holding .mgmt) (running_of_ready (s := s) h) (by rw [port_written s n e]; exact hno)
      refine ⟨_, exec_setPort_of_lost h hlane hf hrole hclasses hlock hrun hst hno, ?_, ?_, fun hold => ?_, fun hold => ?_, ?_,
        fun m hm => ⟨?_, ?_, ?_⟩, ?_, replyOn_keepsRest tag _ hkept hwork.sends⟩
      · rw [port_replyOn_mgmt, hportEnd, port_written s n e]
        rfl
      · rw [replyOn_sticky]; exact hflag
      · rw [lane_replyOn, rel_replyOn]; exact hscreen hold
      · rw [lane_replyOn, rel_replyOn]; exact hother hold
      · exact link_replyOn_last .mgmt tag _ _
      · rw [lane_replyOn]; exact hwork.beside.lane m hm
      · rw [rel_replyOn]; exact hwork.beside.rel m hm
      · rw [port_replyOn_mgmt]; exact (hwork.beside.port m hm).trans (port_setPort_other _ _ hm)
      · rw [replyOn_keys]; exact hwork.keys
    case observes =>
      subst hr
      refine exec_setPort_of_bound h hlane hf hrole hclasses hlock hrun
        (t := ((s.withEntry n e).setLane n (offline (s.lane n))).setRel n (unbound (s.rel n))) hst (by decide) hmatches ?_ hkept ?_ ?_
      · rw [if_pos ⟨hold, rfl⟩, laneUnbind_eq_offline]
        rfl
      · rw [port_setRel, port_setLane, hport]
      · rw [port_setRel, port_setLane, hport]; exact hst
    case shows =>
      subst hr
      have hbinds : ¬ ((s.port n).entry.role = .screen ∧ Role.screen = .observer) := fun hboth => absurd hboth.2 (by decide)
      refine ⟨fun hlaneSt hclear => ?_, fun hlaneSt hmarked hplaces => ?_, fun hlaneSt => ?_⟩
      · refine exec_setPort_of_bound h hlane hf hrole hclasses hlock hrun
          (t := (s.withEntry n e).setLane n { s.lane n with state := .idle }) hst (by decide) hmatches ?_ hkept ?_ ?_
        · rw [if_neg hbinds, if_pos ⟨hold, rfl⟩, rel_laneBind_of_clear (s := (s.withEntry n e).holding .mgmt) hlaneSt hclear]
          rfl
        · rw [port_setLane, hport]
        · rw [port_setLane, hport]; exact hst
      · have hlink : ((s.withEntry n e).link (.screen n)) = s.link (.screen n) := by
          change ((s.withEntry n e).port n).link = _
          rw [hport]
          rfl
        have hroom : ((s.withEntry n e).holding .mgmt).roomAt n 1 := by
          refine ⟨hf, ?_⟩
          rw [link_holding, hlink]
          exact hplaces
        obtain ⟨hitemEntry, hitemState⟩ := port_clearingOf (s.withEntry n e) n
        refine exec_setPort_of_bound h hlane hf hrole hclasses hlock hrun (t := (s.withEntry n e).clearingOf n)
          hst (by decide) hmatches ?_ hkept ?_ ?_
        · rw [if_neg hbinds, if_pos ⟨hold, rfl⟩, laneBind_of_marked (s := (s.withEntry n e).holding .mgmt) hlaneSt hmarked,
            startClearing_of_roomAt hroom, clearingOf_holding]
        · rw [hitemEntry, hport]
        · rw [hitemState, hport]; exact hst
      · refine exec_setPort_of_bound h hlane hf hrole hclasses hlock hrun (t := s.withEntry n e) hst (by decide) hmatches ?_ hkept ?_ ?_
        · rw [if_neg hbinds, if_pos ⟨hold, rfl⟩, laneBind]
          exact if_neg hlaneSt
        · rw [hport]
        · rw [hport]; exact hst
  case badField =>
    intro tag port role classes identity s h
    refine ⟨fun hrange => (exec_setPort tag port identity role classes h).trans (congrArg _ ?_),
      fun n hlane hbad => (exec_setPort tag port identity role classes h).trans (congrArg _ ?_)⟩
    · have hset : setPort port identity role classes 0x14 (s.holding .mgmt) = (s.holding .mgmt, .plain 0x14 .badField) := by
        rw [setPort, laneOf_of_out_of_range hrange]
      rw [hset]
      exact replyOn_same .mgmt tag s _ h.2.2.2
    · rw [setPort_of_badField (s := s.holding .mgmt) hlane hbad]
      exact replyOn_same .mgmt tag s _ h.2.2.2
  case locked =>
    intro tag s h
    refine ⟨exec_of_answer (r := .lockPolicy) (t := { s with policyLock := true }) tag h rfl h.2.2.2,
      fun n port role classes identity hlock hlane hf hrole hclasses =>
        (exec_setPort tag port identity role classes h).trans (congrArg _ ?_)⟩
    obtain ⟨r, hr⟩ := Option.isSome_iff_exists.mp hrole
    rw [setPort_of_locked (s := s.holding .mgmt) hlane hf hr hclasses hlock]
    exact replyOn_same .mgmt tag s _ h.2.2.2

end Sys2Proof.Machine
end


section
/-! PROOFS. Reading a request's body gives the request back (R187, R188). -/

namespace Sys2Proof

/-! ## Fields and bytes behind others -/

theorem fieldAt_append_right {w at' len : Nat} {xs : List Byte} (ys : List Byte) (h : xs.length ≤ at') :
    fieldAt w (xs ++ ys) at' len = fieldAt w ys (at' - xs.length) len := by
  rw [fieldAt, fieldAt, List.drop_append, List.drop_eq_nil_of_le h, List.nil_append]

theorem byteAt_append_right {at' : Nat} {xs : List Byte} (ys : List Byte) (h : xs.length ≤ at') :
    byteAt (xs ++ ys) at' = byteAt ys (at' - xs.length) := by
  rw [byteAt, byteAt, List.getD_append_right _ _ _ _ h]

theorem fieldAt_cons (w n len : Nat) (b : Byte) (bytes : List Byte) : fieldAt w (b :: bytes) (n + 1) len = fieldAt w bytes n len := rfl

theorem byteAt_cons_zero (b : Byte) (bytes : List Byte) : byteAt (b :: bytes) 0 = b := rfl

theorem byteAt_cons_succ (n : Nat) (b : Byte) (bytes : List Byte) : byteAt (b :: bytes) (n + 1) = byteAt bytes n := rfl

/-- A field at the front of what is left. -/
theorem fieldAt_front {w len : Nat} (after : List Byte) (v : BitVec w) (hw : w = 8 * len) :
    fieldAt w (beBytes len v.toNat ++ after) 0 len = v := fieldAt_beBytes [] after len 0 v hw rfl

/-- A field that is all that is left. -/
theorem fieldAt_whole {w len : Nat} (v : BitVec w) (hw : w = 8 * len) : fieldAt w (beBytes len v.toNat) 0 len = v := by
  have h := fieldAt_front [] v hw
  rwa [List.append_nil] at h

theorem flagByte_ne_zero (b : Bool) : (flagByte b != 0#8) = b := by cases b <;> rfl

/-! ## Presence bytes -/

/-- The seven presence bits of SET CLOCK PARAMETERS. -/
theorem presence_bits (b0 b1 b2 b3 b4 b5 b6 : Bool) :
    let p : Byte := BitVec.ofNat 8 (b0.toNat + b1.toNat * 2 + b2.toNat * 4 + b3.toNat * 8 + b4.toNat * 16 + b5.toNat * 32
      + b6.toNat * 64)
    p.getLsbD 0 = b0 ∧ p.getLsbD 1 = b1 ∧ p.getLsbD 2 = b2 ∧ p.getLsbD 3 = b3 ∧ p.getLsbD 4 = b4 ∧ p.getLsbD 5 = b5
      ∧ p.getLsbD 6 = b6 := by
  revert b0 b1 b2 b3 b4 b5 b6
  decide

theorem presenceBit_eq {α : Type} (bit : Nat) (field : Option α) : presenceBit bit field = field.isSome.toNat * 2 ^ bit := by
  cases field <;> simp [presenceBit]

theorem presentField_getD {α : Type} {presence : Byte} {bit : Nat} (field : Option α) (absent : α)
    (h : presence.getLsbD bit = field.isSome) : presentField presence bit (field.getD absent) = field := by
  rw [presentField, h]
  cases field <;> rfl

/-! ## Slots of CLEAR STICKY -/

theorem beBytes_two (v : Nat) : beBytes 2 v = [BitVec.ofNat 8 (v / 256), BitVec.ofNat 8 v] := by
  simp [beBytes]

theorem append_bytes (v : BitVec 16) : (BitVec.ofNat 8 (v.toNat / 256) ++ BitVec.ofNat 8 v.toNat : BitVec 16) = v := by
  apply BitVec.eq_of_toNat_eq
  have hv := v.isLt
  rw [BitVec.toNat_append, BitVec.toNat_ofNat, BitVec.toNat_ofNat, ← Nat.shiftLeft_add_eq_or_of_lt (Nat.mod_lt _ (by decide)),
    Nat.shiftLeft_eq]
  omega

theorem slotFields_pair (hi lo : Byte) (rest : List Byte) : slotFields ([hi, lo] ++ rest) = (hi ++ lo) :: slotFields rest := rfl

theorem slotFields_encode (slots : List (BitVec 16)) : slotFields (slots.flatMap (fun s => beBytes 2 s.toNat)) = slots := by
  induction slots with
  | nil => rfl
  | cons slot slots ih =>
    rw [List.flatMap_cons, beBytes_two, slotFields_pair, append_bytes, ih]

theorem length_slots (slots : List (BitVec 16)) : (slots.flatMap (fun s => beBytes 2 s.toNat)).length = 2 * slots.length := by
  induction slots with
  | nil => rfl
  | cons slot slots ih => rw [List.flatMap_cons, List.length_append, ih, length_beBytes, List.length_cons]; omega

/-! ## The longer bodies, field by field -/

section bodies

variable (unsealed : Option Material)

theorem decode_queueReel (slot : BitVec 16) (label : Label) (d : BitVec 16) (tie : Bool) (reelTag : ReelTag) :
    decodeRequest 0x02 (Request.queueReel slot label d tie reelTag).body unsealed = some (.queueReel slot label d tie reelTag) := by
  have hlen : (Request.queueReel slot label d tie reelTag).body.length = 15 := by simp [Request.body]
  refine (if_pos (e := none) hlen).trans (congrArg some ?_)
  simp [Request.body, flagAt, fieldAt_append_right, byteAt_append_right, fieldAt_cons, byteAt_cons_zero, fieldAt_front,
    fieldAt_whole, flagByte_ne_zero]

theorem decode_loadKey (slot : BitVec 16) (label : Label) (nb na : BitVec 32) (a : BitVec 16) (c : Byte) (screens : ScreenMap)
    (sealedMaterial : SealedMaterial) :
    decodeRequest 0x10 (Request.loadKey slot label nb na a c screens sealedMaterial unsealed).body unsealed
      = some (.loadKey slot label nb na a c screens sealedMaterial unsealed) := by
  have hlen : (Request.loadKey slot label nb na a c screens sealedMaterial unsealed).body.length = 55 := by simp [Request.body]
  refine (if_pos (e := none) hlen).trans (congrArg some ?_)
  simp [Request.body, fieldAt_append_right, byteAt_append_right, fieldAt_cons, byteAt_cons_zero, fieldAt_front, fieldAt_whole]

theorem decode_setPort (port : Byte) (identity : Option Identity) (role classes : Byte) :
    decodeRequest 0x14 (Request.setPort port identity role classes).body unsealed = some (.setPort port identity role classes) := by
  have hlen : (Request.setPort port identity role classes).body.length = 12 := by simp [Request.body]
  refine (if_pos (e := none) hlen).trans (congrArg some ?_)
  cases identity <;>
    simp [Request.body, flagAt, byteAt_append_right, fieldAt_cons, byteAt_cons_zero, byteAt_cons_succ, fieldAt_front, flagByte]

theorem decode_setClockParameters (r uc : Option (BitVec 16)) (k e : Option Byte) (checkLoss : Option Bool) (failTime : Option Byte)
    (strict : Option Bool) : decodeRequest 0x16 (Request.setClockParameters r uc k e checkLoss failTime strict).body unsealed
      = some (.setClockParameters r uc k e checkLoss failTime strict) := by
  obtain ⟨h0, h1, h2, h3, h4, h5, h6⟩ := presence_bits r.isSome uc.isSome k.isSome e.isSome checkLoss.isSome failTime.isSome
    strict.isSome
  have hlen : (Request.setClockParameters r uc k e checkLoss failTime strict).body.length = 10 := by simp [Request.body]
  refine (if_pos (e := none) hlen).trans (congrArg some ?_)
  simp [Request.body, flagAt, fieldAt_append_right, byteAt_append_right, fieldAt_cons, byteAt_cons_zero, byteAt_cons_succ,
    fieldAt_front, flagByte_ne_zero, presenceBit_eq]
  exact ⟨presentField_getD r _ h0, presentField_getD uc _ h1, presentField_getD k _ h2, presentField_getD e _ h3,
    presentField_getD checkLoss _ h4, presentField_getD failTime _ h5, presentField_getD strict _ h6⟩

theorem decode_setLaneParameters (lane : Byte) (wt : Option Byte) (l : Option (BitVec 16)) (dt : Option Byte) :
    decodeRequest 0x17 (Request.setLaneParameters lane wt l dt).body unsealed = some (.setLaneParameters lane wt l dt) := by
  obtain ⟨h0, h1, h2, -⟩ := presence_bits wt.isSome l.isSome dt.isSome false false false false
  have hlen : (Request.setLaneParameters lane wt l dt).body.length = 6 := by simp [Request.body]
  refine (if_pos (e := none) hlen).trans (congrArg some ?_)
  simp only [Bool.toNat_false, Nat.zero_mul, Nat.add_zero] at h0 h1 h2
  simp [Request.body, byteAt_append_right, fieldAt_cons, byteAt_cons_zero, byteAt_cons_succ, fieldAt_front,
    presenceBit_eq]
  exact ⟨presentField_getD wt _ h0, presentField_getD l _ h1, presentField_getD dt _ h2⟩

theorem decode_seedTime (value : BitVec 32) (s : BitVec 16) :
    decodeRequest 0x18 (Request.seedTime value s).body unsealed = some (.seedTime value s) := by
  have hlen : (Request.seedTime value s).body.length = 6 := by simp [Request.body]
  refine (if_pos (e := none) hlen).trans (congrArg some ?_)
  simp [Request.body, fieldAt_append_right, fieldAt_front, fieldAt_whole]

theorem decode_clearSticky (kinds : KindMap) (lanes : ScreenMap) (slots : List (BitVec 16)) (h : slots.length ≤ 45) :
    decodeRequest 0x1D (Request.clearSticky kinds lanes slots).body unsealed = some (.clearSticky kinds lanes slots) := by
  have hlen : (Request.clearSticky kinds lanes slots).body.length = 5 + 2 * slots.length := by
    simp only [Request.body, List.length_append, length_beBytes, length_slots]
  refine (if_pos (e := none) ?_).trans (congrArg some ?_)
  · rw [hlen]
    omega
  · have hdrop : (Request.clearSticky kinds lanes slots).body.drop 5 = slots.flatMap (fun s => beBytes 2 s.toNat) :=
      List.drop_left' (by simp)
    rw [hdrop, slotFields_encode]
    simp [Request.body, fieldAt_append_right, fieldAt_front]

/-- A body that is one field of whole bytes. -/
theorem field_of_body {w len : Nat} (v : BitVec w) (hw : w = 8 * len) (make : BitVec w → Request) :
    (if (beBytes len v.toNat).length = len then some (make (fieldAt w (beBytes len v.toNat) 0 len)) else none) = some (make v) := by
  rw [if_pos (length_beBytes len v.toNat), fieldAt_whole v hw]

end bodies

/-- Settles O14, kind by kind. -/
theorem requestBodiesRoundTrip : Obligations.RequestBodiesRoundTrip := by
  intro r hwf
  cases r with
  | announce identity => exact field_of_body (len := 8) identity rfl .announce
  | queueReel slot label d tie reelTag => exact decode_queueReel _ slot label d tie reelTag
  | erased serial => exact field_of_body (len := 2) serial rfl .erased
  | loadKey slot label nb na a c screens sealedMaterial unsealed => exact decode_loadKey unsealed slot label nb na a c screens sealedMaterial
  | revokeKey slot => exact field_of_body (len := 2) slot rfl .revokeKey
  | purgeKey slot => exact field_of_body (len := 2) slot rfl .purgeKey
  | keyStatus slot => exact field_of_body (len := 2) slot rfl .keyStatus
  | setPort port identity role classes => exact decode_setPort _ port identity role classes
  | setClockParameters r uc k e checkLoss failTime strict => exact decode_setClockParameters _ r uc k e checkLoss failTime strict
  | setLaneParameters lane wt l dt => exact decode_setLaneParameters _ lane wt l dt
  | seedTime value s => exact decode_seedTime _ value s
  | clearSticky kinds lanes slots => exact decode_clearSticky _ kinds lanes slots (of_decide_eq_true hwf)
  | setEventMask kinds => exact field_of_body (len := 3) kinds rfl .setEventMask
  | laneStatus | restoreLane | voidHoldings => rfl
  | stopShow | holdShow | resumeShow | erasedAll | clockStatus | lockPolicy | reframe | statusSummary | clearCounters => rfl

end Sys2Proof
end


section
/-! PROOFS. The taking of a request: its reply is of its kind and is placed last, after notices alone (R163, R164, R171). -/

namespace Sys2Proof.Machine

/-! ## Lists that grow by notices -/

/-- No frame but notices joins a list, and none takes the place kept for a reply; buffers stay. -/
structure NoticesOnly (s t : State) : Prop where
  kept : t.kept = s.kept
  buffer : ∀ p, (t.link p).buffer = (s.link p).buffer
  tx : ∀ p, ∃ ns : List Notice, (t.link p).tx = (s.link p).tx ++ ns.map TxFrame.notice
    ∧ (ns = [] ∨ (t.link p).tx.length + s.keptOn p ≤ 32)

theorem NoticesOnly.of_links {s t : State} (hk : t.kept = s.kept) (hb : ∀ p, (t.link p).buffer = (s.link p).buffer)
    (h : ∀ p, (t.link p).tx = (s.link p).tx) : NoticesOnly s t :=
  ⟨hk, hb, fun p => ⟨[], by rw [h p, List.map_nil, List.append_nil], .inl rfl⟩⟩

theorem NoticesOnly.refl (s : State) : NoticesOnly s s := .of_links rfl (fun _ => rfl) (fun _ => rfl)

theorem NoticesOnly.trans {s t u : State} (h : NoticesOnly s t) (k : NoticesOnly t u) : NoticesOnly s u := by
  refine ⟨k.kept.trans h.kept, fun p => (k.buffer p).trans (h.buffer p), fun p => ?_⟩
  have hkept : t.keptOn p = s.keptOn p := by simp only [State.keptOn, h.kept]
  obtain ⟨ns, htx, hroom⟩ := h.tx p
  obtain ⟨ms, ktx, kroom⟩ := k.tx p
  refine ⟨ns ++ ms, by rw [ktx, htx, List.map_append, List.append_assoc], ?_⟩
  rcases kroom with rfl | kroom
  · rw [List.map_nil, List.append_nil] at ktx
    rw [ktx, List.append_nil]
    exact hroom
  · exact .inr (hkept ▸ kroom)

theorem Sends.noticesOnly {s t : State} (h : Sends s t) : NoticesOnly s t :=
  ⟨h.kept, fun p => (h.link p).buffer, fun p => (h.link p).tx⟩

theorem setPort_noticesOnly (s : State) (n : LaneIx) {p : ScreenPort} (h : p.link = (s.port n).link := by rfl) :
    NoticesOnly s (s.setPort n p) :=
  .of_links rfl (fun q => by rw [link_setPort_of_link s n h q]) (fun q => by rw [link_setPort_of_link s n h q])

theorem portTick_noticesOnly (n : LaneIx) (s : State) : NoticesOnly s (portTick n s) := by
  by_cases hf : s.isFitted n = true
  · rw [portTick_of_fitted hf]
    dsimp only
    split
    · exact (setPort_noticesOnly s n).trans (raise_sends _ _).noticesOnly
    · split
      · exact (setPort_noticesOnly s n).trans (raise_sends _ _).noticesOnly
      · exact setPort_noticesOnly s n
  · rw [portTick, if_neg hf]
    exact .refl s

theorem zeroCounters_noticesOnly (s : State) : NoticesOnly s (zeroCounters s) := by
  refine .of_links rfl (fun p => ?_) (fun p => ?_)
  all_goals
    cases p with
    | mgmt => rfl
    | screen n => rw [State.link, port_zeroCounters]; rfl

/-- Every answer to a request sends notices alone. -/
theorem noticesOnly_answers : AnswersKeep NoticesOnly where
  toEventsKeep := .of_sends .refl .trans (fun _ _ _ => .of_links rfl (fun p => by cases p <;> rfl) (fun p => by cases p <;> rfl))
    (fun _ _ _ => .of_links rfl (fun p => by cases p <;> rfl) (fun p => by cases p <;> rfl)) portTick_noticesOnly
    (fun _ _ h => h.noticesOnly)
  screen n r s := (answerScreen_sends n r s).noticesOnly
  loadKey f kind s := (loadKey_sends f kind s).noticesOnly
  revokeKey slot kind s := (revokeKey_sends slot kind s).noticesOnly
  purgeKey slot kind s := (purgeKey_sends slot kind s).noticesOnly
  setPort port identity role classes kind s := by
    rcases setPort_cases port identity role classes kind s with hsame | ⟨n, entry, -, hwritten⟩
    · rw [hsame]; exact .refl s
    · rw [hwritten]; exact (setPort_noticesOnly s n).trans (rejudgePort_sends n _ _).noticesOnly
  laneParams n _ _ _ s := .of_links rfl (fun p => by rw [link_setLane]) (fun p => by rw [link_setLane])
  restoreLane lane s := (restoreLane_sends lane s).noticesOnly
  voidHoldings lane s := (voidHoldings_sends lane s).noticesOnly
  flags _ _ _ _ := .of_links rfl (fun p => by cases p <;> rfl) (fun p => by cases p <;> rfl)
  clearKeyMark slot s := (clearKeyMark_sends slot s).noticesOnly
  clearLaneMark named n s := (clearLaneMark_sends named n s).noticesOnly
  zeroCounters := zeroCounters_noticesOnly

/-! ## The kind of a reply (R171) -/

theorem judgeAnnounce_requestKind (n : LaneIx) (identity : Identity) (s : State) :
    (judgeAnnounce n identity 0x01 s).2.requestKind = 0x01 := by
  unfold judgeAnnounce
  dsimp only
  split <;> rfl

theorem announce_requestKind (n : LaneIx) (identity : Identity) (s : State) : (announce n identity 0x01 s).2.requestKind = 0x01 := by
  unfold announce
  split
  · split
    · rfl
    · exact judgeAnnounce_requestKind ..
  · exact judgeAnnounce_requestKind ..

theorem newStart_requestKind (n : LaneIx) (slot : Nat) (label : Label) (d : Nat) (tag : ReelTag) (s : State) :
    (newStart n slot label d tag s).2.requestKind = 0x02 := by
  unfold newStart
  dsimp only
  split <;> rfl

theorem storePending_requestKind (n : LaneIx) (p : PendingReel) (s : State) : (storePending n p s).2.requestKind = 0x02 := by
  unfold storePending
  split
  · rfl
  · dsimp only
    split <;> rfl

theorem queueReel_requestKind (n : LaneIx) (slot : Nat) (label : Label) (d : Nat) (tie : Bool) (tag : ReelTag) (s : State) :
    (queueReel n slot label d tie tag s).2.requestKind = 0x02 := by
  unfold queueReel
  split
  · rfl
  · split
    · rfl
    · split
      · exact newStart_requestKind ..
      · exact storePending_requestKind ..
      · exact storePending_requestKind ..
      all_goals rfl

theorem stopShow_requestKind (n : LaneIx) (s : State) : (stopShow n s).2.requestKind = 0x03 := by
  unfold stopShow
  split <;> rfl

theorem holdShow_requestKind (n : LaneIx) (s : State) : (holdShow n s).2.requestKind = 0x04 := by
  unfold holdShow
  split <;> rfl

theorem resumeShow_requestKind (n : LaneIx) (s : State) : (resumeShow n s).2.requestKind = 0x05 := by
  unfold resumeShow
  split
  · dsimp only
    split <;> rfl
  · rfl

theorem erasedAt_requestKind (n : LaneIx) (serial : Nat) (s : State) : (erasedAt n serial s).2.requestKind = 0x06 := by
  unfold erasedAt
  split
  · rfl
  · split
    · rfl
    · split <;> rfl

theorem erasedAllAt_requestKind (n : LaneIx) (s : State) : (erasedAllAt n s).2.requestKind = 0x07 := by
  unfold erasedAllAt
  dsimp only
  split <;> rfl

theorem laneStatus_requestKind (p : PortId) (lane : Byte) (s : State) : (laneStatus p lane s).2.requestKind = 0x08 := by
  unfold laneStatus
  split
  · rfl
  · split <;> rfl

/-- A request of its port's owner, or its refusal by admission: the reply is of the request's kind. -/
theorem underEntry_requestKind {n : LaneIx} {allows : Binding → Bool} {kind : Byte} {owner : State → State × Reply} {s : State}
    (h : (owner s).2.requestKind = kind) : (underEntry n allows kind owner s).2.requestKind = kind := by
  unfold underEntry
  split
  · rfl
  · split
    · rfl
    · exact h

theorem answerScreen_requestKind (n : LaneIx) (r : Request) (s : State) : (answerScreen n r s).2.requestKind = r.kind := by
  cases r with
  | announce identity => exact announce_requestKind n identity s
  | queueReel => exact underEntry_requestKind (queueReel_requestKind ..)
  | stopShow => exact underEntry_requestKind (stopShow_requestKind ..)
  | holdShow => exact underEntry_requestKind (holdShow_requestKind ..)
  | resumeShow => exact underEntry_requestKind (resumeShow_requestKind ..)
  | erased => exact underEntry_requestKind (erasedAt_requestKind ..)
  | erasedAll => exact underEntry_requestKind (erasedAllAt_requestKind ..)
  | laneStatus => exact underEntry_requestKind (laneStatus_requestKind ..)
  | clockStatus => exact underEntry_requestKind (owner := fun s => (s, .clockStatus (clockReport s))) rfl
  | _ => rfl

theorem loadKey_requestKind (f : LoadFields) (s : State) : (loadKey f 0x10 s).2.requestKind = 0x10 := by
  unfold loadKey
  split <;> rfl

theorem revokeKey_requestKind (slot : Nat) (s : State) : (revokeKey slot 0x11 s).2.requestKind = 0x11 := by
  unfold revokeKey
  split
  · rfl
  · split
    · rfl
    · split <;> rfl

theorem purgeKey_requestKind (slot : Nat) (s : State) : (purgeKey slot 0x12 s).2.requestKind = 0x12 := by
  unfold purgeKey
  split
  · rfl
  · split
    · rfl
    · split <;> rfl

theorem keyStatus_requestKind (slot : Nat) (s : State) : (keyStatus slot 0x13 s).2.requestKind = 0x13 := by
  unfold keyStatus
  split <;> rfl

theorem setPort_requestKind (port : Byte) (identity : Option Identity) (role classes : Byte) (s : State) :
    (setPort port identity role classes 0x14 s).2.requestKind = 0x14 := by
  unfold setPort
  split
  · rfl
  · split
    · split
      · rfl
      · split <;> rfl
    · rfl

theorem setLaneParameters_requestKind (lane : Byte) (wt l dt : Option Nat) (s : State) :
    (setLaneParameters lane wt l dt s).2.requestKind = 0x17 := by
  unfold setLaneParameters
  split <;> rfl

theorem seedTime_requestKind (value u : Nat) (s : State) : (seedTime value u 0x18 s).2.requestKind = 0x18 := by
  unfold seedTime
  split <;> rfl

theorem restoreLane_requestKind (lane : Byte) (s : State) : (restoreLane lane s).2.requestKind = 0x1A := by
  unfold restoreLane
  split
  · rfl
  · split <;> rfl

theorem voidHoldings_requestKind (lane : Byte) (s : State) : (voidHoldings lane s).2.requestKind = 0x1B := by
  unfold voidHoldings
  split
  · rfl
  · split <;> rfl

theorem clearSticky_requestKind (kinds : KindMap) (lanes : ScreenMap) (slots : List Nat) (s : State) :
    (clearSticky kinds lanes slots 0x1D s).2.requestKind = 0x1D := by
  unfold clearSticky
  split <;> rfl

theorem setEventMask_requestKind (kinds : KindMap) (s : State) : (setEventMask kinds 0x1E s).2.requestKind = 0x1E := by
  unfold setEventMask
  split <;> rfl

theorem answerManagement_requestKind (r : Request) (s : State) : (answerManagement r s).2.requestKind = r.kind := by
  cases r with
  | laneStatus => exact laneStatus_requestKind ..
  | loadKey => exact loadKey_requestKind ..
  | revokeKey => exact revokeKey_requestKind ..
  | purgeKey => exact purgeKey_requestKind ..
  | keyStatus => exact keyStatus_requestKind ..
  | setPort => exact setPort_requestKind ..
  | setLaneParameters => exact setLaneParameters_requestKind ..
  | seedTime => exact seedTime_requestKind ..
  | restoreLane => exact restoreLane_requestKind ..
  | voidHoldings => exact voidHoldings_requestKind ..
  | clearSticky => exact clearSticky_requestKind ..
  | setEventMask => exact setEventMask_requestKind ..
  | _ => rfl

/-- Every request is answered by a reply of its own kind (R171). -/
theorem answer_requestKind (p : PortId) (r : Request) (s : State) : (answer p r s).2.requestKind = r.kind := by
  cases p with
  | mgmt => exact answerManagement_requestKind r s
  | screen n => exact answerScreen_requestKind n r s

/-! ## Taking (R163) -/

theorem takeRequest_of_due {p : PortId} {tag : Byte} {r : Request} {s : State} (hl : s.listening p = true)
    (hb : (s.link p).buffer = some (tag, r)) (hplaces : (s.link p).tx.length + 8 ≤ 32) : takeRequest p s = handle p tag r s := by
  have hc : (s.link p).canTake = true := decide_eq_true hplaces
  simp only [takeRequest, hl, hc, hb, Bool.and_self, if_true]

theorem link_beginTaking (p : PortId) (s : State) : (beginTaking p s).link p = { s.link p with buffer := none } := by
  have h : (beginTaking p s).link p = (s.setLink p { s.link p with buffer := none }).link p := by cases p <;> rfl
  rw [h, link_setLink_same]

theorem link_handle (p : PortId) (tag : Byte) (r : Request) (s : State) : (handle p tag r s).link p =
    { (answer p r (beginTaking p s)).1.link p with
      tx := ((answer p r (beginTaking p s)).1.link p).tx ++ [.reply tag (answer p r (beginTaking p s)).2] } := by
  have h : (handle p tag r s).link p
      = ((answer p r (beginTaking p s)).1.place p (.reply tag (answer p r (beginTaking p s)).2)).link p := by cases p <;> rfl
  rw [h, link_place_same]

/-- A request taken: notices alone, then its reply (R163, R171). -/
theorem handle_replies (p : PortId) (tag : Byte) (r : Request) {s : State} (hplaces : (s.link p).tx.length + 8 ≤ 32) :
    ∃ (ns : List Notice) (rp : Reply), ((handle p tag r s).link p).tx = (s.link p).tx ++ ns.map TxFrame.notice ++ [.reply tag rp]
      ∧ rp.requestKind = r.kind ∧ ((handle p tag r s).link p).tx.length ≤ 32 ∧ ((handle p tag r s).link p).buffer = none
      ∧ (handle p tag r s).kept = none := by
  have hnotices := noticesOnly_answers.answer p r (beginTaking p s)
  obtain ⟨ns, htx, hroom⟩ := hnotices.tx p
  have hbuffer := hnotices.buffer p
  rw [link_beginTaking] at htx hbuffer
  refine ⟨ns, (answer p r (beginTaking p s)).2, ?_, answer_requestKind p r _, ?_, ?_, rfl⟩
  · rw [link_handle]
    exact congrArg (· ++ _) htx
  · rw [link_handle]
    dsimp only
    rw [List.length_append, List.length_singleton]
    rcases hroom with rfl | hroom
    · rw [htx, List.map_nil, List.append_nil]
      dsimp only
      omega
    · have hkept : (beginTaking p s).keptOn p = 1 := if_pos rfl
      omega
  · rw [link_handle]
    exact hbuffer

/-- Settles O17: the taking, the request rows, and the frame sent. -/
theorem takenRequestsReplyLast : Obligations.TakenRequestsReplyLast := by
  refine ⟨fun p tag r s hl hb => ⟨fun hplaces => ?_, fun hfull => ?_⟩, fun p tag r s h => ?_, fun p f rest s hl htx => ?_⟩
  · obtain ⟨ns, rp, hreply, hkind, hlen, hbuffer, hkept⟩ := handle_replies p tag r hplaces
    exact ⟨_, ns, rp, congrArg Host.Outcome.next (takeRequest_of_due hl hb hplaces), hreply, hkind, hlen, hbuffer, hkept⟩
  · exact congrArg Host.Outcome.next (takeRequest_of_full p s hfull)
  · rw [exec_onPort]
    change Host.Outcome.next _ = Host.Outcome.next (takeRequest p _)
    rw [arrive, if_pos h.1, takeRequest_of_empty p s h.2.1]
    simp only [enterBuffer, h.2.1]
  · intro sent
    have hsend : exec (.frameSent p) s = .next (takeDue p sent) := congrArg Host.Outcome.next (sendFrame_of_cons p f rest s hl htx)
    have hlink : sent.link p = { s.link p with tx := rest } := link_setLink_same ..
    have hpending : sent.pending = s.pending := setLink_pending ..
    refine ⟨fun hstays => hsend.trans (congrArg _ ?_), fun _ _ hnext => hsend.trans (congrArg _ ?_)⟩
    · by_cases hnext : s.pending.head? = some (.requestTaken p)
      · exact takeDue_of_next p sent (hpending ▸ hnext)
      · rw [takeDue_of_due p sent (hpending ▸ hnext)]
        rcases hstays with hnone | hfull | hnext'
        · exact takeRequest_of_empty p sent (by rw [hlink]; exact hnone)
        · exact takeRequest_of_full p sent (by rw [hlink]; exact hfull)
        · exact absurd hnext' hnext
    · exact takeDue_of_due p sent (hpending ▸ hnext)

end Sys2Proof.Machine
end


section
/-! PROOFS. Receiving: a good frame enters its buffer, and each fault is one frame error (R159 to R163, R186, R187). -/

namespace Sys2Proof

/-! ## Frames and the requests they carry (R186, R187) -/

theorem length_slotFields (bytes : List Byte) : (slotFields bytes).length = bytes.length / 2 := by
  induction bytes using slotFields.induct with
  | case1 hi lo rest ih => rw [slotFields, List.length_cons, ih, List.length_cons, List.length_cons]; omega
  | case2 bytes hshort =>
    match bytes, hshort with
    | [], _ => rfl
    | [_], _ => simp [slotFields]
    | hi :: lo :: rest, hshort => exact (hshort hi lo rest rfl).elim

/-- What a request has of the frame that it is read from: kind, form and body length (R187). -/
def Request.fits (r : Request) (kind : Byte) (body : List Byte) : Prop :=
  r.kind = kind ∧ r.wellFormed = true ∧ r.body.length = body.length

theorem fits_of_sized {kind : Byte} {body : List Byte} {n : Nat} {r r' : Request}
    (h : (if body.length = n then some r else none) = some r') (hkind : r.kind.toNat = kind.toNat) (hform : r.wellFormed = true)
    (hlen : r.body.length = n) : r'.fits kind body := by
  obtain ⟨hbody, hr⟩ := Option.ite_none_right_eq_some.mp h
  obtain rfl := Option.some.inj hr
  exact ⟨BitVec.eq_of_toNat_eq hkind, hform, hlen.trans hbody.symm⟩

theorem decodeRequest_fits {kind : Byte} {body : List Byte} {unsealed : Option Material} {r : Request}
    (h : decodeRequest kind body unsealed = some r) : r.fits kind body := by
  unfold decodeRequest at h
  dsimp only at h
  split at h
  case h_26 => exact nomatch h
  case h_23 hk =>
    obtain ⟨⟨hlow, hhigh, hodd⟩, hr⟩ := Option.ite_none_right_eq_some.mp h
    obtain rfl := Option.some.inj hr
    have hslots := length_slotFields (body.drop 5)
    rw [List.length_drop] at hslots
    refine ⟨BitVec.eq_of_toNat_eq hk.symm, decide_eq_true (by omega), ?_⟩
    simp only [Request.body, List.length_append, length_beBytes, length_slots]
    omega
  all_goals
    next hk => exact fits_of_sized h hk.symm rfl (by simp [Request.body])

theorem length_body_le {r : Request} (h : r.wellFormed = true) : r.body.length ≤ 96 := by
  cases r with
  | clearSticky kinds lanes slots =>
    have hslots : slots.length ≤ 45 := of_decide_eq_true h
    simp only [Request.body, List.length_append, length_beBytes, length_slots]
    omega
  | _ => simp [Request.body]

end Sys2Proof

namespace Sys2Proof.Machine

/-! ## Receivers -/

theorem link_setReceiver (s : State) (p : PortId) (rx : Receiver) : (s.setReceiver p rx).link p = { s.link p with receiver := rx } :=
  link_setLink_same ..

theorem setReceiver_setReceiver (s : State) (p : PortId) (a b : Receiver) :
    (s.setReceiver p a).setReceiver p b = s.setReceiver p b := by
  rw [State.setReceiver, State.setReceiver, link_setLink_same, setLink_setLink]
  rfl

theorem setReceiver_self {s : State} {p : PortId} {rx : Receiver} (h : (s.link p).receiver = rx) : s.setReceiver p rx = s := by
  rw [State.setReceiver, ← h]
  exact setLink_self s p

theorem receive_of_hunting {p : PortId} {s : State} (h : (s.link p).receiver = .hunting) (last : Bool) (unsealed : Option Material)
    (c : Byte) : receive p last unsealed c s = huntWith p c s := by
  simp only [receive, h]

theorem receive_of_start {p : PortId} {s : State} (h : (s.link p).receiver = .assembling []) (last : Bool)
    (unsealed : Option Material) (c : Byte) : receive p last unsealed c s =
      if 96 < c.toNat then frameError p (s.setReceiver p .hunting) else s.setReceiver p (.assembling [c]) := by
  simp only [receive, h]
  rfl

theorem receive_of_part {p : PortId} {s : State} {length : Byte} {part : List Byte}
    (h : (s.link p).receiver = .assembling (length :: part)) (last : Bool) (unsealed : Option Material) (c : Byte) :
    receive p last unsealed c s =
      if (length :: part).length + 1 = length.toNat + 5
        then judgeFrame p last (length :: (part ++ [c])) unsealed (s.setReceiver p .hunting)
        else s.setReceiver p (.assembling (length :: (part ++ [c]))) := by
  simp only [receive, h, List.cons_append, frameEnds, List.length_cons, List.length_append, List.length_nil, decide_eq_true_eq]

theorem huntWith_sync (p : PortId) (s : State) : huntWith p 0xC3 s = s.setReceiver p (.assembling []) := rfl

theorem huntWith_other {p : PortId} {c : Byte} {s : State} (hc : c ≠ 0xC3) (h : (s.link p).receiver = .hunting) :
    huntWith p c s = s := by
  rw [huntWith, if_neg (show c ≠ Config.sync from hc)]
  exact setReceiver_self h

/-! ## Runs of characters -/

theorem receiveRun_cons (p : PortId) (ends : Bool) (unsealed : Option Material) (c : Byte) (rest : List Byte) (s : State) :
    receiveRun p ends unsealed (c :: rest) s = receiveRun p ends unsealed rest (receive p (ends && rest.isEmpty) unsealed c s) := rfl

theorem receiveRun_append (p : PortId) (ends : Bool) (unsealed : Option Material) (before after : List Byte) (h : after ≠ [])
    (s : State) : receiveRun p ends unsealed (before ++ after) s
      = receiveRun p ends unsealed after (receiveRun p false unsealed before s) := by
  induction before generalizing s with
  | nil => rfl
  | cons c before ih =>
    have hempty : (before ++ after).isEmpty = false := by simp [h]
    rw [List.cons_append, receiveRun_cons, receiveRun_cons, hempty, Bool.and_false, Bool.false_and, ih]

/-- What comes before a sync is passed over while hunting (R159). -/
theorem receiveRun_junk {p : PortId} (unsealed : Option Material) (ends : Bool) {junk : List Byte} (hjunk : 0xC3 ∉ junk) {s : State}
    (h : (s.link p).receiver = .hunting) : receiveRun p ends unsealed junk s = s := by
  induction junk with
  | nil => rfl
  | cons c junk ih =>
    obtain ⟨hc, hrest⟩ := not_or.mp (mt List.mem_cons.mpr hjunk)
    rw [receiveRun_cons, receive_of_hunting h, huntWith_other (Ne.symm hc) h, ih hrest]

/-- A frame grows character by character while it is not complete (R159). -/
theorem receiveRun_part {p : PortId} (ends : Bool) (unsealed : Option Material) {length : Byte} {part : List Byte}
    (more : List Byte) {s : State} (h : (s.link p).receiver = .assembling (length :: part))
    (hlen : part.length + more.length < length.toNat + 4) :
    receiveRun p ends unsealed more s = s.setReceiver p (.assembling (length :: (part ++ more))) := by
  induction more generalizing part s with
  | nil => rw [List.append_nil]; exact (setReceiver_self h).symm
  | cons c more ih =>
    rw [List.length_cons] at hlen
    have hgoes : ¬ (length :: part).length + 1 = length.toNat + 5 := by rw [List.length_cons]; omega
    rw [receiveRun_cons, receive_of_part h, if_neg hgoes,
      ih (part := part ++ [c]) (by rw [link_setReceiver]) (by rw [List.length_append, List.length_singleton]; omega),
      setReceiver_setReceiver, List.append_assoc, List.singleton_append]

/-- The sync and the length of a frame (R159). -/
theorem receiveRun_head {p : PortId} (ends : Bool) (unsealed : Option Material) {length : Byte} (hlen : length.toNat ≤ 96)
    (rest : List Byte) {s : State} (h : (s.link p).receiver = .hunting) :
    receiveRun p ends unsealed (0xC3 :: length :: rest) s
      = receiveRun p ends unsealed rest (s.setReceiver p (.assembling [length])) := by
  rw [receiveRun_cons, receive_of_hunting h, huntWith_sync, receiveRun_cons, receive_of_start (by rw [link_setReceiver]),
    if_neg (Nat.not_lt.mpr hlen), setReceiver_setReceiver]

/-- A whole frame is judged at its last character (R159). -/
theorem receiveRun_frame {p : PortId} (ends : Bool) (unsealed : Option Material) {length : Byte} {rest : List Byte}
    (hlen : length.toNat ≤ 96) (hrest : rest.length = length.toNat + 4) {s : State} (h : (s.link p).receiver = .hunting) :
    receiveRun p ends unsealed (0xC3 :: length :: rest) s = judgeFrame p ends (length :: rest) unsealed s := by
  have hne : rest ≠ [] := fun hnil => by rw [hnil, List.length_nil] at hrest; omega
  obtain ⟨most, c, rfl⟩ : ∃ most c, rest = most ++ [c] := ⟨rest.dropLast, rest.getLast hne, (List.dropLast_append_getLast hne).symm⟩
  rw [List.length_append, List.length_singleton] at hrest
  rw [receiveRun_head ends unsealed hlen _ h, receiveRun_append p ends unsealed most [c] (by simp),
    receiveRun_part false unsealed most (part := []) (by rw [link_setReceiver]) (by rw [List.length_nil]; omega),
    setReceiver_setReceiver, List.nil_append, receiveRun_cons, receive_of_part (by rw [link_setReceiver]),
    if_pos (by rw [List.length_cons]; omega), setReceiver_setReceiver, setReceiver_self h]
  cases ends <;> rfl

/-! ## One frame error (R160 to R162) -/

/-- A screen port with one frame error more and its receiver written. -/
def ScreenPort.faulted (p : ScreenPort) (rx : Receiver) : ScreenPort :=
  { p with link := { p.link with softErrors := bump p.link.softErrors, receiver := rx }, slices := addError p.slices }

theorem frameError_of_receiver (n : LaneIx) (rx : Receiver) (s : State) : frameError (.screen n) (s.setReceiver (.screen n) rx) =
    if ((s.port n).faulted rx).overThreshold = true then degrade n (s.setPort n ((s.port n).faulted rx))
    else s.setPort n ((s.port n).faulted rx) := by
  have hport : (s.setReceiver (.screen n) rx).port n = { s.port n with link := { (s.port n).link with receiver := rx } } :=
    port_setPort_same ..
  have herred : ((s.setReceiver (.screen n) rx).port n).erred = (s.port n).faulted rx := by
    rw [hport]
    rfl
  rw [frameError_screen, herred]
  simp only [State.setReceiver, State.setLink, setPort_setPort]

theorem overThreshold_faulted_iff (p : ScreenPort) (rx : Receiver) : (p.faulted rx).overThreshold = true ↔
    p.degraded = false ∧ p.dtInForce ≤ (addError p.slices).sum := by
  simp only [ScreenPort.overThreshold, ScreenPort.faulted, ScreenPort.windowSum, Bool.and_eq_true, Bool.not_eq_true']
  exact and_congr_right fun _ => decide_eq_true_iff

theorem keepsSettings_trans {s t u : State} (h : s.keepsSettings t) (k : t.keepsSettings u) : s.keepsSettings u := by
  obtain ⟨h1, h2, h3, h4, h5, h6, h7, hlanes⟩ := h
  obtain ⟨k1, k2, k3, k4, k5, k6, k7, klanes⟩ := k
  refine ⟨k1.trans h1, k2.trans h2, k3.trans h3, k4.trans h4, k5.trans h5, k6.trans h6, k7.trans h7, fun n => ?_⟩
  obtain ⟨hentry, hwt, hl, hdt⟩ := hlanes n
  obtain ⟨kentry, kwt, kl, kdt⟩ := klanes n
  exact ⟨kentry.trans hentry, kwt.trans hwt, kl.trans hl, kdt.trans hdt⟩

theorem setPort_settings (s : State) (n : LaneIx) {p : ScreenPort} (h : p.entry = (s.port n).entry) :
    s.keepsSettings (s.setPort n p) := by
  refine ⟨rfl, rfl, rfl, rfl, rfl, rfl, rfl, fun m => ⟨?_, rfl, rfl, rfl⟩⟩
  by_cases hm : m = n
  · subst hm; rw [port_setPort_same, h]
  · rw [port_setPort_other _ _ hm]

/-- One frame error on a screen port that does not degrade it. -/
theorem oneFrameError_of_kept {n : LaneIx} {rx : Receiver} {s : State} (h : ¬ ((s.port n).faulted rx).overThreshold = true) :
    s.oneFrameError (s.setPort n ((s.port n).faulted rx)) (.screen n) rx := by
  rw [overThreshold_faulted_iff] at h
  refine ⟨congrArg ScreenPort.link (port_setPort_same ..), fun m hm => ?_, nofun, fun m hm => ?_, rfl, rfl, rfl, rfl, rfl,
    setPort_settings s n rfl⟩
  · obtain rfl := PortId.screen.inj hm
    rw [port_setPort_same]
    refine ⟨rfl, ?_, fun hno hyes => ?_, fun _ => ⟨rfl, rfl⟩, rfl, rfl⟩
    · cases hd : (s.port n).degraded with
      | true => exact hd
      | false =>
        rw [Bool.false_or, decide_eq_false fun hsum => h ⟨hd, hsum⟩]
        exact hd
    · exact absurd (hno.symm.trans hyes) Bool.false_ne_true
  · exact port_setPort_other _ _ fun heq => hm (congrArg _ heq.symm)

/-- One frame error on a screen port that degrades it (R162). -/
theorem oneFrameError_of_degraded {n : LaneIx} {rx : Receiver} {s : State} (hrunning : s.running = true)
    (h : ((s.port n).faulted rx).overThreshold = true) :
    s.oneFrameError (degrade n (s.setPort n ((s.port n).faulted rx))) (.screen n) rx := by
  obtain ⟨hlive, hsum⟩ := (overThreshold_faulted_iff _ rx).mp h
  let flagged : ScreenPort := { (s.port n).faulted rx with degraded := true }
  obtain ⟨sum, dt, heq⟩ : ∃ sum dt : Nat,
      degrade n (s.setPort n ((s.port n).faulted rx)) = (s.setPort n flagged).raise (.portDegraded n sum dt) :=
    ⟨_, _, by rw [degrade, setPort_setPort, port_setPort_same]⟩
  rw [heq]
  have hport (m : LaneIx) : ((s.setPort n flagged).raise (.portDegraded n sum dt)).port m = (s.setPort n flagged).port m :=
    port_raise ..
  have hquiet := raise_quiet (s.setPort n flagged) (.portDegraded n sum dt)
  refine ⟨?_, fun m hm => ?_, nofun, fun m hm => ?_, hquiet.lanes, hquiet.releases, hquiet.keys, hquiet.clock, hquiet.framer, ?_⟩
  · exact congrArg ScreenPort.link ((hport n).trans (port_setPort_same ..))
  · obtain rfl := PortId.screen.inj hm
    rw [hport, port_setPort_same]
    refine ⟨rfl, ?_, fun _ _ => raise_sticky _ _ hrunning, fun hsame => ?_, rfl, rfl⟩
    · rw [decide_eq_true hsum, Bool.or_true]
    · rw [hlive] at hsame
      exact absurd hsame.symm Bool.false_ne_true
  · rw [hport]
    exact port_setPort_other _ _ fun heq => hm (congrArg _ heq.symm)
  · exact ((⟨setPort_settings s n rfl, fun _ hi => hi⟩ : Works s (s.setPort n flagged)).trans (raise_sends _ _).works).settings

theorem frameError_oneFrameError {p : PortId} {s : State} (hrunning : s.running = true) (rx : Receiver) :
    s.oneFrameError (frameError p (s.setReceiver p rx)) p rx := by
  cases p with
  | mgmt =>
    exact ⟨rfl, nofun, fun _ => rfl, fun _ _ => rfl, rfl, rfl, rfl, rfl, rfl, rfl, rfl, rfl, rfl, rfl, rfl, rfl,
      fun _ => ⟨rfl, rfl, rfl, rfl⟩⟩
  | screen n =>
    rw [frameError_of_receiver]
    split
    · next h => exact oneFrameError_of_degraded hrunning h
    · next h => exact oneFrameError_of_kept h

theorem listening_running {p : PortId} {s : State} (h : s.listening p = true) : s.running = true := by
  cases p with
  | mgmt => exact h
  | screen n => exact (Bool.and_eq_true _ _ |>.mp h).1

/-- A character that is read while hunting after one frame error (R160). -/
theorem oneFrameError_setReceiver {p : PortId} {s t : State} {rx : Receiver} (h : s.oneFrameError t p rx) (rx' : Receiver) :
    s.oneFrameError (t.setReceiver p rx') p rx' := by
  obtain ⟨hlink, hscreen, hmgmt, hothers, hlanes, hreleases, hkeys, hclock, hframer, hsettings⟩ := h
  have hwritten : (t.setReceiver p rx').link p = { s.link p with
      softErrors := min 65535 ((s.link p).softErrors + 1), receiver := rx' } := by
    rw [link_setReceiver, hlink]
  cases p with
  | mgmt =>
    exact ⟨hwritten, nofun, hmgmt, hothers, hlanes, hreleases, hkeys, hclock, hframer, hsettings⟩
  | screen n =>
    have hsame : (t.setReceiver (.screen n) rx').port n = { t.port n with link := { (t.port n).link with receiver := rx' } } :=
      port_setPort_same ..
    refine ⟨hwritten, fun m hm => ?_, nofun, fun m hm => ?_, hlanes, hreleases, hkeys, hclock, hframer, ?_⟩
    · obtain rfl := PortId.screen.inj hm
      rw [hsame]
      exact hscreen n rfl
    · refine (port_setPort_other _ _ fun heq => hm (congrArg _ heq.symm)).trans (hothers m hm)
    · exact keepsSettings_trans hsettings (setPort_settings t n rfl)

/-! ## Judging a complete frame (R159, R160, R163) -/

section judged

variable {p : PortId} {unsealed : Option Material} {s : State}

/-- A frame whose check, kind and body length are good carries the request that its body spells. -/
theorem frameRequest_body (length kind tag : Byte) {body : List Byte} (check : List Byte) (h : body.length = length.toNat) :
    frameRequest (length :: kind :: tag :: (body ++ check)) unsealed
      = if check = beBytes 2 (crc16 (length :: kind :: tag :: body)).toNat then
          (decodeRequest kind body unsealed).map (fun r => (tag, r)) else none := by
  simp only [frameRequest, ← h, List.take_left, List.drop_left]

theorem takeRequest_of_waiting (h : (s.link p).buffer = none ∨ 32 < (s.link p).tx.length + 8) : takeRequest p s = s :=
  h.elim (takeRequest_of_empty p s) (takeRequest_of_full p s)

theorem judgeFrame_of_none {chars : List Byte} {last : Bool} (hs : takeRequest p s = s) (h : frameRequest chars unsealed = none) :
    judgeFrame p last chars unsealed s = frameError p s := by
  simp only [judgeFrame, h, hs]

theorem judgeFrame_of_some {chars : List Byte} {tag : Byte} {r : Request} (hs : takeRequest p s = s)
    (h : frameRequest chars unsealed = some (tag, r)) :
    judgeFrame p true chars unsealed s = takeDue p (enterBuffer p tag r s) := by
  simp only [judgeFrame, h, hs, if_true]

theorem takeDue_of_full (h : 32 < (s.link p).tx.length + 8) : takeDue p s = s := by
  by_cases hnext : s.pending.head? = some (.requestTaken p)
  · exact takeDue_of_next p s hnext
  · exact (takeDue_of_due p s hnext).trans (takeRequest_of_full p s h)

theorem enterBuffer_of_empty (tag : Byte) (r : Request) (h : (s.link p).buffer = none) :
    enterBuffer p tag r s = s.setLink p { s.link p with buffer := some (tag, r) } := by
  simp only [enterBuffer, h]

theorem enterBuffer_of_waiting (tag : Byte) (r : Request) (h : (s.link p).buffer ≠ none) : enterBuffer p tag r s = frameError p s := by
  obtain ⟨waiting, hw⟩ := Option.ne_none_iff_exists'.mp h
  simp only [enterBuffer, hw]

theorem frameError_hunting (hrunning : s.running = true) (h : (s.link p).receiver = .hunting) :
    s.oneFrameError (frameError p s) p .hunting := by
  have herror := frameError_oneFrameError (p := p) hrunning .hunting
  rwa [setReceiver_self h] at herror

/-- A complete frame that finds the buffer full is an overrun (R160). -/
theorem judgeFrame_overrun {chars : List Byte} {tag : Byte} {r : Request} (hrunning : s.running = true)
    (hhunting : (s.link p).receiver = .hunting) (hfull : 32 < (s.link p).tx.length + 8) (hwaits : (s.link p).buffer ≠ none)
    (h : frameRequest chars unsealed = some (tag, r)) : judgeFrame p true chars unsealed s = frameError p s := by
  obtain ⟨hlink, -⟩ := frameError_hunting hrunning hhunting
  rw [judgeFrame_of_some (takeRequest_of_full p s hfull) h, enterBuffer_of_waiting tag r hwaits]
  exact takeDue_of_full (by rw [hlink]; exact hfull)

end judged

theorem receiveAll_of_listening {p : PortId} {s : State} (h : s.listening p = true) (unsealed : Option Material)
    (chars : List Byte) : receiveAll p unsealed chars s = receiveRun p true unsealed chars s := if_pos h

theorem bytes_of_check {hi lo : Byte} {v : BitVec 16} (h : [hi, lo] = beBytes 2 v.toNat) : hi ++ lo = v := by
  rw [beBytes_two] at h
  obtain ⟨rfl, hrest⟩ := List.cons.inj h
  obtain ⟨rfl, -⟩ := List.cons.inj hrest
  exact append_bytes v

/-! ## O15 -/

/-- The check bytes of a request's frame (R186). -/
def frameCheck (r : Request) (tag : Byte) : List Byte :=
  beBytes 2 (crc16 (BitVec.ofNat 8 r.body.length :: r.kind :: tag :: r.body)).toNat

theorem frameOf_eq (r : Request) (tag : Byte) : frameOf r.kind tag r.body
    = 0xC3 :: BitVec.ofNat 8 r.body.length :: r.kind :: tag :: (r.body ++ frameCheck r tag) := rfl

theorem lengthByte_toNat {r : Request} (h : r.wellFormed = true) : (BitVec.ofNat 8 r.body.length).toNat = r.body.length := by
  have hle := length_body_le h
  rw [BitVec.toNat_ofNat]
  omega

theorem frameRequest_frameOf {r : Request} (h : r.wellFormed = true) (tag : Byte) :
    frameRequest (BitVec.ofNat 8 r.body.length :: r.kind :: tag :: (r.body ++ frameCheck r tag)) r.unsealed = some (tag, r) := by
  rw [frameRequest_body _ _ _ _ (lengthByte_toNat h).symm, frameCheck, if_pos rfl, requestBodiesRoundTrip r h]
  rfl

theorem exec_frameOf {p : PortId} (tag : Byte) {r : Request} {s : State} (hform : r.wellFormed = true) (hl : s.listening p = true)
    (hempty : (s.link p).buffer = none) (hhunting : (s.link p).receiver = .hunting) :
    exec (.frameComplete p (frameOf r.kind tag r.body) r.unsealed) s
      = .next (takeDue p (s.setLink p { s.link p with buffer := some (tag, r) })) := by
  have hlen := lengthByte_toNat hform
  refine congrArg Host.Outcome.next ((receiveAll_of_listening hl ..).trans ?_)
  rw [frameOf_eq, receiveRun_frame true r.unsealed (hlen.trans_le (length_body_le hform)) ?_ hhunting,
    judgeFrame_of_some (takeRequest_of_empty p s hempty) (frameRequest_frameOf hform tag), enterBuffer_of_empty tag r hempty]
  rw [List.length_cons, List.length_cons, List.length_append, frameCheck, length_beBytes, hlen]

/-- Settles O15. -/
theorem frameCompleteBuffersTheRequest : Obligations.FrameCompleteBuffersTheRequest := by
  intro p tag r s hform hl hempty hhunting
  rw [exec_frameOf tag hform hl hempty hhunting]
  have hlink := link_setLink_same s p { s.link p with buffer := some (tag, r) }
  have hpending : (s.setLink p { s.link p with buffer := some (tag, r) }).pending = s.pending := setLink_pending ..
  refine ⟨fun hkept => ?_, fun _ hnext => ?_⟩
  · obtain hfull | hnext := hkept
    · rw [takeDue_of_full (by rw [hlink]; exact hfull)]
    · rw [takeDue_of_next _ _ (by rw [hpending]; exact hnext)]
  · rw [takeDue_of_due _ _ (by rw [hpending]; exact hnext)]
    rfl

/-! ## O16 -/

theorem exec_badFrame {p : PortId} {length kind tag hi lo : Byte} {body : List Byte} {unsealed : Option Material} {s : State}
    (hl : s.listening p = true) (hhunting : (s.link p).receiver = .hunting)
    (hstays : (s.link p).buffer = none ∨ 32 < (s.link p).tx.length + 8) (hlen : length.toNat ≤ 96)
    (hbody : body.length = length.toNat)
    (hbad : hi ++ lo ≠ crc16 (length :: kind :: tag :: body)
      ∨ (∀ r : Request, r.wellFormed = true → r.kind = kind → r.body.length ≠ length.toNat) ∨ (s.link p).buffer ≠ none) :
    exec (.frameComplete p (0xC3 :: length :: kind :: tag :: (body ++ [hi, lo])) unsealed) s = .next (frameError p s) := by
  refine congrArg Host.Outcome.next ((receiveAll_of_listening hl ..).trans ?_)
  rw [receiveRun_frame true unsealed hlen
    (by rw [List.length_cons, List.length_cons, List.length_append, hbody]; rfl) hhunting]
  cases hread : frameRequest (length :: kind :: tag :: (body ++ [hi, lo])) unsealed with
  | none => exact judgeFrame_of_none (takeRequest_of_waiting hstays) hread
  | some found =>
    obtain ⟨tag', r⟩ := found
    have hwaits : (s.link p).buffer ≠ none := by
      rw [frameRequest_body length kind tag [hi, lo] hbody] at hread
      obtain ⟨hcheck, hread⟩ := Option.ite_none_right_eq_some.mp hread
      obtain ⟨r', hdecode, -⟩ := Option.map_eq_some_iff.mp hread
      obtain ⟨hkind, hform, hlength⟩ := decodeRequest_fits hdecode
      obtain hwrong | hunfit | hwaits := hbad
      · exact absurd (bytes_of_check hcheck) hwrong
      · exact absurd (hlength.trans hbody) (hunfit r' hform hkind)
      · exact hwaits
    exact judgeFrame_overrun (listening_running hl) hhunting (hstays.resolve_left hwaits) hwaits hread

theorem receiveRun_tooLong {p : PortId} {length : Byte} {chars junk : List Byte} (unsealed : Option Material) {s : State}
    (hlen : 96 < length.toNat)
    (h : (s.link p).receiver = .assembling [] ∧ chars = [length]
      ∨ (s.link p).receiver = .hunting ∧ 0xC3 ∉ junk ∧ chars = junk ++ [0xC3, length]) :
    receiveRun p true unsealed chars s = frameError p (s.setReceiver p .hunting) := by
  obtain ⟨hstart, rfl⟩ | ⟨hhunting, hjunk, rfl⟩ := h
  · rw [receiveRun_cons, receive_of_start hstart, if_pos hlen]
    rfl
  · rw [receiveRun_append p true unsealed junk _ (by simp), receiveRun_junk unsealed false hjunk hhunting, receiveRun_cons,
      receive_of_hunting hhunting, huntWith_sync, receiveRun_cons, receive_of_start (by rw [link_setReceiver]), if_pos hlen,
      setReceiver_setReceiver]
    rfl

/-- A frame begun and not complete leaves the receiver assembling, and nothing else changed. -/
theorem receiveRun_begun {p : PortId} {before part rest : List Byte} {length : Byte} (unsealed : Option Material) {s : State}
    (h : (s.link p).receiver = .assembling part ∧ before = []
      ∨ (s.link p).receiver = .hunting ∧ (before = [0xC3]
        ∨ before = 0xC3 :: length :: rest ∧ length.toNat ≤ 96 ∧ rest.length < length.toNat + 4)) :
    ∃ held, receiveRun p false unsealed before s = s.setReceiver p (.assembling held) := by
  obtain ⟨hpart, rfl⟩ | ⟨hhunting, rfl | ⟨rfl, hlen, hrest⟩⟩ := h
  · exact ⟨part, (setReceiver_self hpart).symm⟩
  · refine ⟨[], ?_⟩
    rw [receiveRun_cons, receive_of_hunting hhunting, huntWith_sync]
    rfl
  · refine ⟨length :: ([] ++ rest), ?_⟩
    rw [receiveRun_head false unsealed hlen rest hhunting,
      receiveRun_part false unsealed rest (part := []) (by rw [link_setReceiver])
        (by rw [List.length_nil]; omega), setReceiver_setReceiver]

theorem gapEnds_of_assembling {p : PortId} {s : State} (held : List Byte) :
    gapEnds p (s.setReceiver p (.assembling held)) = frameError p (s.setReceiver p .hunting) := by
  simp only [gapEnds, link_setReceiver, setReceiver_setReceiver]

theorem gapEnds_of_hunting {p : PortId} {s : State} (h : (s.link p).receiver = .hunting) : gapEnds p s = s := by
  simp only [gapEnds, h]

theorem exec_gapError_of_long {p : PortId} {before : List Byte} {gapMicros : Nat} {char : Byte} {unsealed : Option Material}
    {s : State} (hl : s.listening p = true) (hgap : 2000 < gapMicros) :
    exec (.gapError p before gapMicros char unsealed) s
      = .next (huntWith p char (gapEnds p (receiveRun p false unsealed before s))) :=
  congrArg Host.Outcome.next ((if_pos hl).trans (if_pos hgap))

theorem exec_gapError_of_short {p : PortId} {gapMicros : Nat} {char : Byte} {unsealed : Option Material}
    {s : State} (hl : s.listening p = true) (hgap : gapMicros ≤ 2000) :
    exec (.gapError p [] gapMicros char unsealed) s = exec (.frameComplete p [char] unsealed) s :=
  congrArg Host.Outcome.next (((if_pos hl).trans (if_neg (Nat.not_lt.mpr hgap))).trans (receiveAll_of_listening hl unsealed [char]).symm)

/-- Settles O16. -/
theorem frameErrorsAreCountedOnce : Obligations.FrameErrorsAreCountedOnce := by
  refine ⟨?_, ?_, ?_, ?_⟩
  · intro p length kind tag hi lo body unsealed s hl hhunting hstays hlen hbody hbad
    exact ⟨_, exec_badFrame hl hhunting hstays hlen hbody hbad, frameError_hunting (listening_running hl) hhunting⟩
  · intro p length chars junk unsealed s hl hlen h
    refine ⟨_, congrArg Host.Outcome.next ((receiveAll_of_listening hl ..).trans (receiveRun_tooLong unsealed hlen h)), ?_⟩
    exact frameError_oneFrameError (listening_running hl) .hunting
  · intro p before part rest length gapMicros char unsealed s hl hgap h
    obtain ⟨held, hheld⟩ := receiveRun_begun unsealed h
    refine ⟨_, exec_gapError_of_long hl hgap, ?_⟩
    rw [hheld, gapEnds_of_assembling]
    exact oneFrameError_setReceiver (frameError_oneFrameError (listening_running hl) .hunting) _
  · intro p before gapMicros char unsealed s hl
    refine ⟨fun hgap hhunting hjunk => ?_, exec_gapError_of_short hl⟩
    rw [exec_gapError_of_long hl hgap, receiveRun_junk unsealed false hjunk hhunting, gapEnds_of_hunting hhunting]
    rfl

end Sys2Proof.Machine
end


section
/-! PROOFS. The line's bits and instants: period ends, transitions, silence, candidates and mimics (R1 to R8). -/

namespace Sys2Proof.Machine

/-! ## What the work of the line changes: framer, clock, and what a notice sends -/

/-- From a state to another only the framer and the clock changed, and notices went out. -/
def OnLine (s t : State) : Prop := Sends { s with framer := t.framer, clock := t.clock } t

theorem Sends.withLine {s t : State} (h : Sends s t) (f : Framer) (c : Clock) :
    Sends { s with framer := f, clock := c } { t with framer := f, clock := c } :=
  { h with framer := rfl, clock := rfl }

theorem Sends.onLine {s t : State} {f : Framer} {c : Clock} (h : Sends { s with framer := f, clock := c } t) : OnLine s t := by
  rw [OnLine, h.framer, h.clock]
  exact h

theorem OnLine.refl (s : State) : OnLine s s := Sends.refl s

theorem OnLine.trans {s t u : State} (h : OnLine s t) (k : OnLine t u) : OnLine s u :=
  (Sends.withLine h u.framer u.clock).trans k

theorem OnLine.keepsRest {s t : State} (h : OnLine s t) : { s with framer := t.framer, clock := t.clock }.keepsRest t :=
  Sends.keepsRest h

theorem setFramer_onLine (s : State) (f : Framer) : OnLine s (s.setFramer f) := Sends.refl _

theorem setClock_onLine (s : State) (c : Clock) : OnLine s (s.setClock c) := Sends.refl _

theorem lossNotice_onLine (cause : TimeCause) (s : State) : OnLine s (lossNotice cause s) := (lossNotice_sends cause s).onLine

theorem lossNotice_framer (cause : TimeCause) (s : State) : (lossNotice cause s).framer = s.framer :=
  (lossNotice_sends cause s).framer

/-! ## O51: the end of a bit period (R1, R3) -/

/-- Gathering keeps everything of the framer but what it gathers (R8, R10). -/
theorem gather_eq (f : Framer) : ∃ gathered awaiting, f.gather = { f with candidate := gathered, awaiting := awaiting }
    ∧ gathered.map (fun c => (c.position, c.age)) = f.candidate.map (fun c => (c.position, c.age)) := by
  unfold Framer.gather
  split
  · next c hstate hc =>
    split
    · exact ⟨_, f.awaiting, rfl, by rw [hc]; rfl⟩
    · exact ⟨f.candidate, f.awaiting, rfl, rfl⟩
  · split
    · exact ⟨f.candidate, _, rfl, rfl⟩
    · exact ⟨f.candidate, f.awaiting, rfl, rfl⟩
  · exact ⟨f.candidate, f.awaiting, rfl, rfl⟩

theorem exec_bitPeriodEnd {s : State} (h : s.lineQuiet) :
    exec .bitPeriodEnd s = .next (s.setFramer s.framer.endPeriod.gather) := by
  obtain ⟨hrunning, hquiet⟩ := h
  refine congrArg Host.Outcome.next ((if_pos hrunning).trans ?_)
  rw [endPeriod, hquiet]

theorem periodBit_eq (f : Framer) :
    f.periodBit = if f.startSeen = false then .invalid else if f.midSeen = true then .one else .zero := by
  rw [Framer.periodBit]
  cases f.startSeen <;> rfl

/-- Settles O51. -/
theorem bitPeriodEndClassifiesTheBit : Obligations.BitPeriodEndClassifiesTheBit := by
  intro s hquiet
  obtain ⟨gathered, awaiting, hgather, hages⟩ := gather_eq s.framer.endPeriod
  refine ⟨_, exec_bitPeriodEnd hquiet, ?_⟩
  rw [hgather]
  refine ⟨congrArg (· :: _) (periodBit_eq _), rfl, rfl, rfl, rfl, rfl, rfl, rfl, rfl, rfl, rfl, rfl, rfl, rfl, hages.trans ?_⟩
  exact Option.map_map ..

/-! ## O52: transitions (R1) -/

theorem exec_transition {ns : Nat} {s : State} (hrunning : s.running = true) (hnext : s.framer.nextStart = false)
    (hphase : s.framer.gridPhase + ns < 7812500) :
    exec (.referenceLineTransition ns) s = .next (s.setFramer (s.framer.transition (s.framer.gridPhase + ns))) := by
  have hclosed : closePeriod s = s := if_neg (by rw [hnext, Bool.and_false]; exact Bool.false_ne_true)
  refine congrArg Host.Outcome.next ((if_pos hrunning).trans ?_)
  dsimp only
  rw [hclosed, show Config.periodNs = 7812500 from rfl, Nat.div_eq_of_lt hphase, Nat.mod_eq_of_lt hphase]
  rfl

theorem transition_of_start {f : Framer} {phase : Nat} (h : 4 * phase < 7812500) (hstart : f.startSeen = false) :
    f.transition phase = { f with startSeen := true, gridPhase := 0 } :=
  (if_pos h).trans (if_neg (by rw [hstart]; exact Bool.false_ne_true))

theorem transition_of_mid {f : Framer} {phase : Nat} (hlow : 7812500 < 4 * phase) (hhigh : 4 * phase < 3 * 7812500) :
    f.transition phase = { f with midSeen := true, gridPhase := phase } :=
  (if_neg (Nat.not_lt.mpr hlow.le)).trans ((if_neg (Nat.not_lt.mpr hhigh.le)).trans (if_pos ⟨hlow, hhigh⟩))

theorem transition_of_next {f : Framer} {phase : Nat} (h : 3 * 7812500 < 4 * phase) :
    f.transition phase = { f with nextStart := true, gridPhase := 0 } :=
  (if_neg (by change ¬ 4 * phase < 7812500; omega)).trans (if_pos h)

/-- Settles O52. -/
theorem transitionsMarkThePeriod : Obligations.TransitionsMarkThePeriod := by
  intro ns s hrunning hnext
  refine ⟨fun hlow hstart => ?_, fun hlow hhigh => ?_, fun hlow hin => ?_⟩
  · rw [exec_transition hrunning hnext (by omega), transition_of_start hlow hstart]
  · rw [exec_transition hrunning hnext (by omega), transition_of_mid hlow hhigh]
  · rw [exec_transition hrunning hnext hin, transition_of_next hlow]

/-! ## O53: silence (R2, R3) -/

theorem silenceDue_of_run {f : Framer} (hrun : 32 ≤ f.missingRun) (hstate : f.state ≠ .silent) : f.silenceDue = true :=
  Bool.and_eq_true_iff.mpr ⟨decide_eq_true hrun, bne_iff_ne.mpr hstate⟩

/-- The silence counter one on (R2). -/
def Framer.silenced (f : Framer) : Framer := f.count (fun c => { c with silences := bump c.silences })

theorem silenceEntry_of_due {s : State} (hrunning : s.running = true) (hdue : s.framer.silenceDue = true) : silenceEntry s =
    if s.framer.state = .aligned then lossNotice .silence (s.setFramer { s.framer.silenced.dropped .silent with clean := 0 })
    else s.setFramer { s.framer.silenced with state := .silent, candidate := none, clean := 0, fresh := false } :=
  if_pos (Bool.and_eq_true_iff.mpr ⟨hrunning, hdue⟩)

/-- Settles O53. -/
theorem silenceEntersAndCleanWindowLeaves : Obligations.SilenceEntersAndCleanWindowLeaves := by
  intro s hrunning
  refine ⟨fun hrun hlive hnot => ?_, fun hrun haligned => ?_, fun hsilent hclean => ?_⟩
  · refine congrArg Host.Outcome.next ?_
    rw [silenceEntry_of_due hrunning (silenceDue_of_run hrun hlive), if_neg hnot]
    rfl
  · refine ⟨_, rfl, ?_⟩
    rw [silenceEntry_of_due hrunning (silenceDue_of_run hrun (by rw [haligned]; nofun)), if_pos haligned]
    exact ⟨lossNotice_framer .., lossNotice_clock .., ((setFramer_onLine s _).trans (lossNotice_onLine ..)).keepsRest⟩
  · exact congrArg Host.Outcome.next (if_pos (Bool.and_eq_true_iff.mpr
      ⟨Bool.and_eq_true_iff.mpr ⟨hrunning, beq_iff_eq.mpr hsilent⟩, decide_eq_true hclean⟩))

/-! ## O54: candidates and mimics (R6 to R8) -/

theorem candidatePosition_of_match {s : State} (hrunning : s.running = true) (hsearch : s.framer.state = .search)
    (hfresh : s.framer.fresh = true) (hmatch : s.framer.patternMatch = true) :
    candidatePosition s = s.setFramer { s.framer with
      state := .confirm, fresh := false,
      candidate := some
        { position := s.framer.endedPhase, age := 0, strict := s.clock.params.strict, gathered := none } } :=
  if_pos (by rw [hrunning, hsearch, hfresh, hmatch]; rfl)

theorem mimic_of_match {s : State} {c : Candidate} (hrunning : s.running = true) (hconfirm : s.framer.state = .confirm)
    (hfresh : s.framer.fresh = true) (hmatch : s.framer.patternMatch = true) (hc : s.framer.candidate = some c)
    (hage : c.mimicAge = true) :
    mimic s = s.setFramer (if c.strict = true then (s.framer.count (fun k => { k with mimics := bump k.mimics })).dropCandidate
      else { s.framer.count (fun k => { k with mimics := bump k.mimics }) with fresh := false }) := by
  unfold mimic
  dsimp only
  rw [hc]
  exact if_pos (by rw [hrunning, hconfirm, hfresh, hmatch, hage]; rfl)

/-- Settles O54. -/
theorem candidateAndItsMimics : Obligations.CandidateAndItsMimics := by
  intro s hrunning hfresh hmatch
  refine ⟨fun hsearch => congrArg Host.Outcome.next (candidatePosition_of_match hrunning hsearch hfresh hmatch), ?_⟩
  intro c hconfirm hc hpos
  refine ⟨fun hloose hage => congrArg Host.Outcome.next ?_, fun hstrict hage h128 h256 => congrArg Host.Outcome.next ?_⟩
  · have hmimic : c.mimicAge = true := (if_neg (by rw [hloose]; exact Bool.false_ne_true)).trans (decide_eq_true ⟨hpos, hage⟩)
    rw [mimic_of_match hrunning hconfirm hfresh hmatch hc hmimic, if_neg (by rw [hloose]; exact Bool.false_ne_true)]
    rfl
  · have hmimic : c.mimicAge = true := (if_pos hstrict).trans (decide_eq_true ⟨hpos, hage, by omega⟩)
    rw [mimic_of_match hrunning hconfirm hfresh hmatch hc hmimic, if_pos hstrict]
    rfl

end Sys2Proof.Machine
end


section
/-! PROOFS. Alignment declared, judged and lost, the superframe's start, the alarm and REFRAME (R7, R9 to R11, R13, R14, R16, R19). -/

namespace Sys2Proof.Machine

/-! ## O55: a declaration (R9, R13, R19) -/

theorem raise_ports (s : State) (e : Event) : (s.raise e).ports = s.ports := by
  unfold State.raise
  split
  · dsimp only
    split
    · split <;> rfl
    · rfl
  · rfl

/-- From a state to another only the framer changed, and events went out. -/
structure Framed (s t : State) : Prop where
  quiet : Quiet (s.setFramer t.framer) t
  ports : t.ports = s.ports

theorem Framed.refl (s : State) : Framed s s := ⟨Quiet.refl s, rfl⟩

theorem Framed.trans {s t u : State} (h : Framed s t) (k : Framed t u) : Framed s u := by
  have before : Quiet (s.setFramer u.framer) (t.setFramer u.framer) := { h.quiet with framer := rfl }
  exact ⟨before.trans k.quiet, k.ports.trans h.ports⟩

theorem setFramer_framed (s : State) (f : Framer) : Framed s (s.setFramer f) := ⟨Quiet.refl _, rfl⟩

theorem raise_framed (s : State) (e : Event) : Framed s (s.raise e) := by
  refine ⟨?_, raise_ports s e⟩
  rw [raise_framer]
  exact raise_quiet s e

theorem Framed.onLine {s t : State} (h : Framed s t) : OnLine s t :=
  Sends.onLine (c := s.clock) h.quiet.toSends

theorem Framed.clock {s t : State} (h : Framed s t) : t.clock = s.clock := h.quiet.clock

theorem Framed.works {s t : State} (h : Framed s t) : Works s t := (setFramer_works s _).trans h.quiet.toSends.works

/-- The changes counter after a declaration at a position (R9). -/
def Framer.changesAt (f : Framer) (position : Nat) : FramerCounters :=
  { f.counters with
    changes := (if f.lastPosition = none ∨ f.lastPosition = some position then f.counters.changes
      else min 65535 (f.counters.changes + 1)) }

theorem recordPosition_framed (position : Nat) (s : State) : Framed s (recordPosition position s) := by
  unfold recordPosition
  split
  · exact Framed.refl s
  · split
    · exact Framed.refl s
    · exact (setFramer_framed s _).trans (raise_framed _ _)

theorem recordPosition_framer (position : Nat) (s : State) :
    (recordPosition position s).framer = { s.framer with counters := s.framer.changesAt position } := by
  unfold recordPosition Framer.changesAt
  split
  · next hnone => rw [if_pos (Or.inl hnone)]
  · next last hlast =>
    split
    · next hsame => rw [if_pos (Or.inr (hlast.trans (congrArg some hsame)))]
    · next hnew =>
      rw [raise_framer, if_neg (by rw [hlast]; exact not_or.mpr ⟨nofun, mt Option.some.inj hnew⟩)]
      rfl

theorem restoreReference_framed (position : Nat) (s : State) : Framed s (restoreReference position s) := by
  unfold restoreReference
  split
  · exact (setFramer_framed s _).trans (raise_framed _ _)
  · exact Framed.refl s

theorem restoreReference_framer (position : Nat) (s : State) :
    (restoreReference position s).framer = { s.framer with alarm := false } := by
  unfold restoreReference
  split
  · rw [raise_framer]
    rfl
  · next h => rw [← Bool.not_eq_true _ |>.mp h]

theorem restoreReference_sticky {position : Nat} {s : State} (hrunning : s.running = true) (halarm : s.framer.alarm = true) :
    (restoreReference position s).sticky.getLsbD EventKind.referenceRestored.code = true := by
  rw [restoreReference, if_pos halarm]
  exact raise_sticky _ _ hrunning

/-- The framer after a declaration for a candidate (R9, R13, R19). -/
def Framer.declared (f : Framer) (candidate : Nat) (p : ClockParams) : Framer :=
  { f.alignedAt ((candidate + 72) % 128) p with
    counters := f.changesAt ((candidate + 72) % 128), alarm := false }

theorem declareAlignment_framed (candidate : Nat) (s : State) : Framed s (declareAlignment candidate s) :=
  ((recordPosition_framed _ s).trans (setFramer_framed _ _)).trans (restoreReference_framed _ _)

theorem declareAlignment_framer (candidate : Nat) (s : State) :
    (declareAlignment candidate s).framer = s.framer.declared candidate s.clock.params := by
  rw [declareAlignment, restoreReference_framer, setFramer_framer, recordPosition_framer, (recordPosition_framed _ s).clock]
  rfl

theorem declareAlignment_sticky {candidate : Nat} {s : State} (hrunning : s.running = true) (halarm : s.framer.alarm = true) :
    (declareAlignment candidate s).sticky.getLsbD EventKind.referenceRestored.code = true := by
  refine restoreReference_sticky ((recordPosition_framed _ s).works.running_eq.trans hrunning) ?_
  rw [setFramer_framer, recordPosition_framer]
  exact halarm

theorem confirmTest_of_due {s : State} {c : Candidate} (hrunning : s.running = true) (hconfirm : s.framer.state = .confirm)
    (hfresh : s.framer.fresh = true) (hc : s.framer.candidate = some c) (hloose : c.strict = false) (hage : c.age = 128) :
    confirmTest s = if s.framer.patternMatch = true then declareAlignment c.position s else s.setFramer s.framer.dropCandidate := by
  unfold confirmTest
  dsimp only
  rw [hc]
  exact if_pos (by rw [hrunning, hconfirm, hfresh, hloose, hage]; rfl)

/-- Settles O55. -/
theorem confirmTestDeclaresAlignment : Obligations.ConfirmTestDeclaresAlignment := by
  intro c s hrunning hconfirm hfresh hc hloose hage
  have htest := confirmTest_of_due hrunning hconfirm hfresh hc hloose hage
  refine ⟨fun hno => ?_, fun hmatch => ?_⟩
  · rw [if_neg (by rw [hno]; exact Bool.false_ne_true)] at htest
    exact congrArg Host.Outcome.next htest
  · rw [if_pos hmatch] at htest
    obtain ⟨hquiet, hports⟩ := declareAlignment_framed c.position s
    refine ⟨_, congrArg Host.Outcome.next htest, ?_⟩
    rw [declareAlignment_framer] at hquiet ⊢
    exact ⟨rfl, rfl, rfl, rfl, rfl, rfl, rfl, rfl, rfl, rfl, rfl, declareAlignment_sticky hrunning, hquiet.toSends.keepsRest,
      hquiet.keys, hquiet.lanes, hquiet.releases, hports⟩

/-! ## O57: the superframe start (R10, R13, R23) -/

/-- The framer keeps the settings it has taken up, and whether the period just ended is still to be looked at (R13). -/
def SameTaken (s t : State) : Prop :=
  t.framer.kTaken = s.framer.kTaken ∧ t.framer.eTaken = s.framer.eTaken ∧ t.framer.checkLossTaken = s.framer.checkLossTaken
    ∧ t.framer.fresh = s.framer.fresh

theorem SameTaken.trans {s t u : State} (h : SameTaken s t) (k : SameTaken t u) : SameTaken s u := by
  obtain ⟨h1, h2, h3, h4⟩ := h
  obtain ⟨k1, k2, k3, k4⟩ := k
  exact ⟨k1.trans h1, k2.trans h2, k3.trans h3, k4.trans h4⟩

theorem sameTaken_of_framer {s t : State} (h : t.framer = s.framer) : SameTaken s t := by
  rw [SameTaken, h]
  exact ⟨rfl, rfl, rfl, rfl⟩

theorem failTick_sameTaken (s : State) : SameTaken s (failTick s) := by
  unfold failTick
  dsimp only
  split
  · exact ⟨rfl, rfl, rfl, rfl⟩
  · split
    · rw [SameTaken, raise_framer]
      exact ⟨rfl, rfl, rfl, rfl⟩
    · exact ⟨rfl, rfl, rfl, rfl⟩

theorem settleTick_sameTaken (s : State) : SameTaken s (settleTick s) := by
  unfold settleTick
  split
  · have howed : SameTaken s (if s.framer.tickOwed then failTick s else s) := by
      split
      · exact failTick_sameTaken s
      · exact sameTaken_of_framer rfl
    exact howed.trans (sameTaken_of_framer
      ((forLanes_sends _ timeOuts_sends _).trans (forLanes_sends _ takeOwedLane_sends _)).framer)
  · exact sameTaken_of_framer rfl

theorem handOn_sameTaken (apart : List TickPart) (s : State) : SameTaken s (handOn apart s) := by
  have hshare : SameTaken s (shareFramer apart s) := by
    unfold shareFramer
    split
    · exact ⟨rfl, rfl, rfl, rfl⟩
    · exact failTick_sameTaken s
  unfold handOn
  split
  · have hlanes := (forLanes_sends _ (shareRelease_sends apart) (shareFramer apart s)).trans
      (forLanes_sends _ (shareLane_sends apart) _)
    exact (hshare.trans (sameTaken_of_framer hlanes.framer)).trans
      (sameTaken_of_framer ((evaluate_sends _).framer.trans (forLanes_portTick_framer _)))
  · exact sameTaken_of_framer (evaluate_sends s).framer

theorem tick_sameTaken (apart : List TickPart) (s : State) : SameTaken s (tick apart s) := by
  obtain ⟨c, -, hclock⟩ := clockTick_quiet (settleTick s)
  exact ((settleTick_sameTaken s).trans (sameTaken_of_framer hclock.framer)).trans (handOn_sameTaken apart _)

/-- The framer with the settings taken up at a superframe start (R13). -/
def Framer.started (f : Framer) (p : ClockParams) : Framer :=
  { f with kTaken := p.k, eTaken := p.e, checkLossTaken := p.checkLoss, fresh := false }

theorem superframeStart_of_due {s : State} (apart : List TickPart) (hrunning : s.running = true)
    (haligned : s.framer.state = .aligned) (hfresh : s.framer.fresh = true) (hperiod : s.framer.superframePeriod = 0) :
    superframeStart apart s = if s.clock.time = .assured then
        tick apart (restartOscillator (s.setFramer (s.framer.started s.clock.params)))
      else s.setFramer (s.framer.started s.clock.params) :=
  if_pos (by rw [hrunning, Framer.startDue, haligned, hfresh, hperiod]; rfl)

/-- The clock of a superframe start in ASSURED (R23, R24, R39). -/
theorem startTick_clock (apart : List TickPart) {s : State} {tm : Nat} (hassured : s.clock.time = .assured)
    (ht : s.clock.t = some tm) : (tick apart (restartOscillator (s.setFramer (s.framer.started s.clock.params)))).clock =
      { s.clock with
        osc := 0, t := some (min 4294967295 (tm + 1)), floor := max s.clock.floor (min 4294967295 (tm + 1) - s.clock.u) } := by
  rw [tick_clock, clockTick_clock]
  simp only [restartOscillator, setClock_clock, setFramer_clock, hassured]
  simp only [Clock.raiseFloor, Clock.advanceT, Clock.now, Clock.u, ht]
  rfl

/-- Settles O57. -/
theorem superframeStartIsTheTickInAssured : Obligations.SuperframeStartIsTheTickInAssured := by
  intro apart s hrunning haligned hfresh hperiod
  have hstart := superframeStart_of_due apart hrunning haligned hfresh hperiod
  refine ⟨fun hnot => ?_, fun tm hassured ht => ?_⟩
  · rw [if_neg hnot] at hstart
    exact congrArg Host.Outcome.next hstart
  · rw [if_pos hassured] at hstart
    obtain ⟨hk, he, hcheck, -⟩ := tick_sameTaken apart (restartOscillator (s.setFramer (s.framer.started s.clock.params)))
    refine ⟨_, congrArg Host.Outcome.next hstart, hk, he, hcheck, startTick_clock apart hassured ht,
      (((setFramer_works s _).trans (setClock_works _ _)).trans (tick_works apart _)).settings⟩

/-! ## O58: the alignment test (R11, R14, R33) -/

theorem loseAlignment_onLine (cause : TimeCause) (s : State) : OnLine s (loseAlignment cause s) :=
  (setFramer_onLine s _).trans (lossNotice_onLine cause _)

theorem loseAlignment_framer (cause : TimeCause) (s : State) : (loseAlignment cause s).framer =
    { s.framer.dropped .search with
      counters := { s.framer.counters with losses := min 65535 (s.framer.counters.losses + 1) } } := lossNotice_framer ..

/-- The clock after a loss notice (R33, R34). -/
def Clock.lost (c : Clock) : Clock :=
  if c.time = .assured then ({ c with prev := none } : Clock).toHoldover else { c with prev := none }

theorem lost_time (c : Clock) : c.lost.time = if c.time = .assured then .holdover else c.time := by
  rw [Clock.lost]
  split <;> rfl

theorem lost_t (c : Clock) : c.lost.t = c.t := by
  rw [Clock.lost]
  split <;> rfl

theorem lost_prev (c : Clock) : c.lost.prev = none := by
  rw [Clock.lost]
  split <;> rfl

theorem loseAlignment_clock (cause : TimeCause) (s : State) : (loseAlignment cause s).clock = s.clock.lost :=
  lossNotice_clock ..

theorem alignmentTest_of_due {s : State} (hrunning : s.running = true) (haligned : s.framer.state = .aligned)
    (hfresh : s.framer.fresh = true) (hperiod : s.framer.superframePeriod = 57) :
    alignmentTest s = if s.framer.judged.kTaken ≤ (s.framer.judged.lossWindow.filter id).length
      then loseAlignment .errored (s.setFramer s.framer.judged) else s.setFramer s.framer.judged :=
  if_pos (by rw [hrunning, Framer.testDue, haligned, hfresh, hperiod]; rfl)

theorem judged_eq (f : Framer) : f.judged = { f with
    lossWindow := ((!f.patternMatch) :: f.lossWindow).take 8, fresh := false
    counters := if f.patternMatch = true then f.counters else
      { f.counters with errored := min 65535 (f.counters.errored + 1) } } := by
  unfold Framer.judged
  cases f.patternMatch <;> rfl

/-- Settles O58. -/
theorem alignmentTestJudgesTheSuperframe : Obligations.AlignmentTestJudgesTheSuperframe := by
  intro window counters s hrunning haligned hfresh hperiod hwindow hcounters
  have htest := alignmentTest_of_due hrunning haligned hfresh hperiod
  rw [judged_eq, ← hwindow, ← hcounters] at htest
  refine ⟨fun hbelow => ?_, fun hat => ?_⟩
  · rw [if_neg (Nat.not_le.mpr hbelow)] at htest
    exact congrArg Host.Outcome.next htest
  · rw [if_pos hat] at htest
    have hclock := loseAlignment_clock .errored (s.setFramer { s.framer with
      lossWindow := window, fresh := false, counters := counters })
    rw [setFramer_clock] at hclock
    refine ⟨_, congrArg Host.Outcome.next htest, (loseAlignment_framer ..).trans rfl, ?_, ?_, ?_,
      ((setFramer_onLine s _).trans (loseAlignment_onLine ..)).keepsRest⟩
    · rw [hclock, lost_time]
    · rw [hclock, lost_prev]
    · rw [hclock, lost_t]

/-! ## O60: the alarm and REFRAME (R14, R16, R19) -/

theorem alarmNext_of_due {s : State} (hstate : s.framer.state ≠ .aligned) (halarm : s.framer.alarm = false)
    (hdue : s.clock.params.failTime ≤ min 120 (s.framer.failTimer + 1)) : alarmNext s = true := by
  rw [alarmNext, halarm, bne_iff_ne.mpr hstate, decide_eq_true hdue]
  rfl

theorem takeReferenceFailed_of_due {s : State} (hrunning : s.running = true) (howed : s.framer.tickOwed = true)
    (hstate : s.framer.state ≠ .aligned) (halarm : s.framer.alarm = false)
    (hdue : s.clock.params.failTime ≤ min 120 (s.framer.failTimer + 1)) :
    takeReferenceFailed s = (s.setFramer { s.framer with
      tickOwed := false, failTimer := min 120 (s.framer.failTimer + 1), alarm := true }).raise
        (.referenceFailed s.framer.state) := by
  rw [takeReferenceFailed, if_pos (by rw [hrunning, howed, alarmNext_of_due hstate halarm hdue]; rfl)]
  refine (if_neg (show ¬ ({ s.framer with tickOwed := false } : Framer).state = .aligned from hstate)).trans ?_
  exact if_pos (by rw [halarm, decide_eq_true hdue]; rfl)

theorem exec_reframe_of_aligned {s : State} (tag : Byte) (h : s.ready .mgmt) (haligned : s.framer.state = .aligned) :
    exec (.reframe .mgmt tag) s
      = .next (replyOn .mgmt tag (loseAlignment .reframe (s.holding .mgmt), .reframe .search)) := by
  rw [show Instr.reframe .mgmt tag = onPort .mgmt tag .reframe from rfl, exec_of_ready .mgmt tag .reframe s h]
  have hreframe : reframe (s.holding .mgmt) = (loseAlignment .reframe (s.holding .mgmt), .reframe .search) := by
    simp only [reframe, holding_framer, haligned, loseAlignment_framer]
    rfl
  exact congrArg (fun done => Host.Outcome.next (replyOn .mgmt tag done)) hreframe

/-- Settles O60. -/
theorem referenceFailedAndReframe : Obligations.ReferenceFailedAndReframe := by
  intro s
  refine ⟨fun hrunning howed hstate halarm hdue =>
    congrArg Host.Outcome.next (takeReferenceFailed_of_due hrunning howed hstate halarm hdue), fun tag h => ?_⟩
  refine ⟨fun hsilent => ?_, fun hsearch => ?_, fun hconfirm => ?_, fun haligned => ?_⟩
  · refine exec_of_reply (r := .reframe) tag h (show reframe (s.holding .mgmt) = _ from ?_)
    simp only [reframe, holding_framer, hsilent]
  · refine exec_of_answer (r := .reframe) (t := s.setFramer { s.framer with fresh := false }) tag h
      (show reframe (s.holding .mgmt) = _ from ?_) h.2.2.2
    simp only [reframe, holding_framer, hsearch, setFramer_framer]
    rfl
  · refine exec_of_answer (r := .reframe) (t := s.setFramer s.framer.dropCandidate) tag h
      (show reframe (s.holding .mgmt) = _ from ?_) h.2.2.2
    simp only [reframe, holding_framer, hconfirm, setFramer_framer]
    rfl
  · have hclock := loseAlignment_clock .reframe (s.holding .mgmt)
    rw [holding_clock] at hclock
    have hframer := loseAlignment_framer .reframe (s.holding .mgmt)
    have hline := loseAlignment_onLine .reframe (s.holding .mgmt)
    refine ⟨_, exec_reframe_of_aligned tag h haligned, ?_, ?_, ?_, ?_, ?_, ?_, ?_, link_replyOn_last .mgmt tag _ _⟩
    · rw [replyOn_framer, hframer]; rfl
    · rw [replyOn_framer, hframer]; rfl
    · rw [replyOn_framer, hframer]; rfl
    · rw [replyOn_framer, hframer]; rfl
    · rw [replyOn_clock, hclock, lost_prev]
    · rw [replyOn_clock, hclock, lost_time]
    · rw [replyOn_framer, replyOn_clock]
      exact replyOn_keepsRest (s := { s with
        framer := (loseAlignment .reframe (s.holding .mgmt)).framer, clock := (loseAlignment .reframe (s.holding .mgmt)).clock })
        tag _ h.2.2.2 hline

end Sys2Proof.Machine
end


section
/-! PROOFS. A step of site time at a lane: its show goes on where the re-check passes, and ends where it refuses (R30, R57, R98). -/

namespace Sys2Proof.Machine

/-- Lane n runs the reel on a live key of its label whose authorised time ends at a time. -/
structure State.runsUntil (s : State) (n : LaneIx) (a : ActiveReel) (last : Nat) : Prop where
  running : (s.lane n).state.running = true
  active : (s.lane n).active = some a
  key : ∃ k, s.key a.slot = some k ∧ k.label = a.label ∧ k.state ≠ .revoked ∧ k.state ≠ .expired ∧ k.na + k.a = last

/-- Lane n's show has ended, its holdings as they were. -/
structure ShowGone (n : LaneIx) (s t : State) : Prop where
  active : (t.lane n).active = none
  state : (t.lane n).state = s.endedState n
  holdings : (t.rel n).holdings = (s.rel n).holdings

theorem ShowOver.gone {s t : State} {n : LaneIx} {a : ActiveReel} {reason : ShowReason}
    (h : ShowOver s t n (s.lane n) a reason) : ShowGone n s t := by
  refine ⟨by rw [h.lane]; rfl, by rw [h.lane]; rfl, ?_⟩
  by_cases hroom : (s.rel n).outstanding.length < 4
  · rw [h.withdrawn hroom]; rfl
  · rw [h.kept (Nat.not_lt.mp hroom)]; rfl

theorem ShowGone.of_start {n : LaneIx} {s s1 t : State} (h : ShowGone n s1 t) (before : Stays n s s1) : ShowGone n s t := by
  obtain ⟨hactive, hstate, hholdings⟩ := h
  rw [State.endedState, before.rel] at hstate
  rw [before.rel] at hholdings
  exact ⟨hactive, hstate, hholdings⟩

theorem ShowGone.stays {n : LaneIx} {s t u : State} (h : ShowGone n s t) (after : Stays n t u) : ShowGone n s u := by
  obtain ⟨hactive, hstate, hholdings⟩ := h
  rw [← after.lane] at hactive hstate
  rw [← after.rel] at hholdings
  exact ⟨hactive, hstate, hholdings⟩

theorem ShowGone.rest {n : LaneIx} {s t : State} (h : ShowGone n s t) : (t.lane n).state.running = false := by
  rw [h.state, State.endedState]
  split <;> rfl

/-! ## Evaluations -/

theorem Key.judged_live {k : Key} {now u : Nat} (hexpired : k.state ≠ .expired) (hrevoked : k.state ≠ .revoked)
    (hend : ¬ k.na + k.a + u ≤ now) : k.judged now u ≠ .expired ∧ k.judged now u ≠ .revoked := by
  rw [k.judged_of_live now u hexpired hrevoked, if_neg hend]
  split_ifs
  · exact ⟨nofun, nofun⟩
  · exact ⟨nofun, nofun⟩
  · exact ⟨hexpired, hrevoked⟩

theorem not_expiresAt_of_runs {s : State} {n : LaneIx} {a : ActiveReel} {last : Nat} (h : s.runsUntil n a last)
    (hlast : ¬ last + s.clock.u ≤ s.clock.now) : ¬ s.expiresAt s.clock a.slot := by
  obtain ⟨k, hk, -, hrevoked, hexpired, rfl⟩ := h.key
  rintro ⟨-, hany⟩
  rw [hk, Option.any_some, Bool.and_eq_true, beq_iff_eq] at hany
  exact (Key.judged_live hexpired hrevoked hlast).1 hany.2

theorem expiresAt_of_runs {s : State} {n : LaneIx} {a : ActiveReel} {last : Nat} (h : s.runsUntil n a last)
    (husable : s.clock.usable = true) (hlast : last + s.clock.u ≤ s.clock.now) : s.expiresAt s.clock a.slot := by
  obtain ⟨k, hk, -, hrevoked, hexpired, rfl⟩ := h.key
  refine ⟨husable, ?_⟩
  rw [hk, Option.any_some, Bool.and_eq_true, bne_iff_ne, beq_iff_eq, k.judged_of_live _ _ hexpired hrevoked, if_pos hlast]
  exact ⟨hexpired, rfl⟩

/-- An evaluation before the end of its key leaves a running show. -/
theorem evaluate_runs {s : State} {n : LaneIx} {a : ActiveReel} {last : Nat} (h : s.runsUntil n a last)
    (hlast : ¬ last + s.clock.u ≤ s.clock.now) : Stays n s (evaluate s) ∧ (evaluate s).runsUntil n a last := by
  have hspared := not_expiresAt_of_runs h hlast
  obtain ⟨hrunning, hactive, k, hk, hlabel, hrevoked, hexpired, hend⟩ := h
  have hstays : Stays n s (evaluate s) := evaluate_stays_of_spared fun b hb => by
    rw [hactive] at hb
    rwa [← Option.some.inj hb]
  refine ⟨hstays, by rw [hstays.lane]; exact hrunning, by rw [hstays.lane]; exact hactive, ?_⟩
  cases hu : s.clock.usable with
  | false => exact ⟨k, by rw [evaluate_of_unusable hu]; exact hk, hlabel, hrevoked, hexpired, hend⟩
  | true =>
    obtain ⟨hlive, hnotRevoked⟩ := Key.judged_live (k := k) (u := s.clock.u) hexpired hrevoked (by rw [hend]; exact hlast)
    refine ⟨k.evaluated s.clock.now s.clock.u, by rw [key_evaluate hu, hk]; rfl, ?_, ?_, ?_, ?_⟩
    · rw [Key.evaluated_eq]; exact hlabel
    · rw [Key.evaluated_state]; exact hnotRevoked
    · rw [Key.evaluated_state]; exact hlive
    · rw [Key.evaluated_eq]; exact hend

/-! ## The step notice (R98) -/

theorem recheckAt_of_refused {n : LaneIx} {a : ActiveReel} {reason : Answer} {s : State}
    (hrunning : (s.lane n).state.running = true) (hactive : (s.lane n).active = some a) (h : recheck a s = some reason) :
    recheckAt n s = endShow n (.refused reason) s := by
  simp only [recheckAt, hrunning, hactive, h]

theorem recheckAt_of_passed {n : LaneIx} {a : ActiveReel} {s : State} (hactive : (s.lane n).active = some a)
    (h : recheck a s = none) : recheckAt n s = s := by
  unfold recheckAt
  split
  · next b _ hb =>
    rw [hactive] at hb
    rw [← Option.some.inj hb, h]
  · rfl

theorem recheckAt_of_rest {n : LaneIx} {s : State} (h : (s.lane n).state.running = false) : recheckAt n s = s := by
  simp only [recheckAt, h]

theorem recheckAt_work (n : LaneIx) (s : State) : LaneWork n s (recheckAt n s) := by
  unfold recheckAt
  split
  · split
    · exact LaneWork.refl n s
    · exact endShow_work n _ s
  · exact LaneWork.refl n s

theorem stepNotice_stays_of_rest {n : LaneIx} {s : State} (h : (s.lane n).state.running = false) : Stays n s (stepNotice s) := by
  obtain ⟨u, before, after⟩ := forLanes_turn recheckAt_work n s
  rw [recheckAt_of_rest (by rw [before.lane]; exact h)] at after
  exact before.toStays.trans after.toStays

theorem recheck_of_runs {s : State} {n : LaneIx} {a : ActiveReel} {last : Nat} (h : s.runsUntil n a last)
    (husable : s.clock.usable = true) :
    recheck a s = if last < s.clock.now + s.clock.u + a.r then some .runsPast else none := by
  obtain ⟨k, hk, hlabel, hrevoked, hexpired, rfl⟩ := h.key
  simp only [recheck, hk, hlabel, husable, ne_eq, not_true_eq_false, if_false, if_neg hrevoked, if_neg hexpired, Bool.not_true,
    Bool.false_eq_true]

theorem stepNotice_runs {s : State} {n : LaneIx} {a : ActiveReel} {last : Nat} (h : s.runsUntil n a last)
    (husable : s.clock.usable = true) (hlast : ¬ last < s.clock.now + s.clock.u + a.r) :
    Stays n s (stepNotice s) ∧ (stepNotice s).runsUntil n a last := by
  have hrecheck := recheck_of_runs h husable
  rw [if_neg hlast] at hrecheck
  obtain ⟨u, before, after⟩ := forLanes_turn recheckAt_work n s
  rw [recheckAt_of_passed (by rw [before.lane]; exact h.active) ((before.recheck a).trans hrecheck)] at after
  have hstays : Stays n s (stepNotice s) := before.toStays.trans after.toStays
  have hkey : (stepNotice s).key a.slot = s.key a.slot :=
    congrArg (fun keys => lookupKey a.slot keys) (forLanes_keys recheckAt_work s)
  exact ⟨hstays, by rw [hstays.lane]; exact h.running, by rw [hstays.lane]; exact h.active, by rw [hkey]; exact h.key⟩

theorem stepNotice_gone {s : State} {n : LaneIx} {a : ActiveReel} {last : Nat} (h : s.runsUntil n a last)
    (hrunning : s.running = true) (husable : s.clock.usable = true) (hlast : last < s.clock.now + s.clock.u + a.r) :
    ShowGone n s (stepNotice s) := by
  have hrecheck := recheck_of_runs h husable
  rw [if_pos hlast] at hrecheck
  obtain ⟨u, before, after⟩ := forLanes_turn recheckAt_work n s
  have hrun : (u.lane n).state.running = true := by rw [before.lane]; exact h.running
  have hactive : (u.lane n).active = some a := by rw [before.lane]; exact h.active
  have hover := endShow_over (.refused .runsPast) (before.running.trans hrunning) hrun hactive
  rw [← recheckAt_of_refused hrun hactive ((before.recheck a).trans hrecheck)] at hover
  exact (hover.gone.stays after.toStays).of_start before.toStays

/-! ## The notices of a step (R30) -/

theorem raise_stays (n : LaneIx) (s : State) (e : Event) : Stays n s (s.raise e) :=
  ⟨raise_sends s e, lane_raise s e n, rel_raise s e n, port_raise s e n⟩

theorem raise_runs {s : State} {n : LaneIx} {a : ActiveReel} {last : Nat} (h : s.runsUntil n a last) (e : Event) :
    (s.raise e).runsUntil n a last :=
  ⟨by rw [lane_raise]; exact h.running, by rw [lane_raise]; exact h.active, by rw [key_raise]; exact h.key⟩

/-- The notices of a step leave a show whose re-check passes. -/
theorem announceStep_runs {s : State} {n : LaneIx} {a : ActiveReel} {last : Nat} (r : StepRecord) (lanesFirst : Bool)
    (h : s.runsUntil n a last) (husable : s.clock.usable = true) (hpos : 1 ≤ a.r)
    (hlast : s.clock.now + s.clock.u + a.r ≤ last) :
    Stays n s (announceStep r lanesFirst s) ∧ (announceStep r lanesFirst s).runsUntil n a last := by
  have hraise := raise_stays n s (.timeStep r.delta r.excess)
  have hruns := raise_runs h (.timeStep r.delta r.excess)
  unfold announceStep
  dsimp only
  generalize s.raise (.timeStep r.delta r.excess) = s1 at hraise hruns
  have evaluated {u : State} (hu : Stays n s u) (hr : u.runsUntil n a last) :
      Stays n s (evaluate u) ∧ (evaluate u).runsUntil n a last := by
    obtain ⟨hs, hk⟩ := evaluate_runs hr (by rw [hu.clock]; omega)
    exact ⟨hu.trans hs, hk⟩
  have stepped {u : State} (hu : Stays n s u) (hr : u.runsUntil n a last) :
      Stays n s (stepNotice u) ∧ (stepNotice u).runsUntil n a last := by
    obtain ⟨hs, hk⟩ := stepNotice_runs hr (by rw [hu.clock]; exact husable) (by rw [hu.clock]; omega)
    exact ⟨hu.trans hs, hk⟩
  split
  · obtain ⟨hs, hr⟩ := stepped hraise hruns
    exact evaluated hs hr
  · obtain ⟨hs, hr⟩ := evaluated hraise hruns
    exact stepped hs hr

/-- The notices of a step end a show whose re-check refuses. -/
theorem announceStep_gone {s : State} {n : LaneIx} {a : ActiveReel} {last : Nat} (r : StepRecord) (lanesFirst : Bool)
    (h : s.runsUntil n a last) (hrunning : s.running = true) (husable : s.clock.usable = true)
    (hlast : last < s.clock.now + s.clock.u + a.r) : ShowGone n s (announceStep r lanesFirst s) := by
  have hraise := raise_stays n s (.timeStep r.delta r.excess)
  have hruns := raise_runs h (.timeStep r.delta r.excess)
  unfold announceStep
  dsimp only
  generalize s.raise (.timeStep r.delta r.excess) = s1 at hraise hruns
  rw [← hraise.clock] at husable hlast
  have hrunning1 := hraise.running.trans hrunning
  split
  · have hgone := stepNotice_gone hruns hrunning1 husable hlast
    exact (hgone.stays (evaluate_stays_of_rest hgone.rest)).of_start hraise
  · by_cases hexpires : last + s1.clock.u ≤ s1.clock.now
    · have hgone := (evaluate_over hrunning1 hruns.running hruns.active (expiresAt_of_runs hruns husable hexpires)).gone
      exact (hgone.stays (stepNotice_stays_of_rest hgone.rest)).of_start hraise
    · obtain ⟨hs, hr⟩ := evaluate_runs hruns hexpires
      have hgone := stepNotice_gone hr (hs.running.trans hrunning1) (by rw [hs.clock]; exact husable)
        (by rw [hs.clock]; exact hlast)
      exact hgone.of_start (hraise.trans hs)

end Sys2Proof.Machine
end


section
/-! PROOFS. Superframe ends: what is reported to the clock, what is captured, and what a failed check costs (R8, R12, R15, R17, R18, R26 to R32). -/

namespace Sys2Proof.Machine

/-! ## The clock at a report without a confirmation (R26, R28, R32) -/

/-- The clock after a report without a confirmation (R32). -/
def Clock.missed (c : Clock) : Clock :=
  if c.time = .assured then (if 2 ≤ c.miss then c.toHoldover else { c with miss := c.miss + 1 }) else c

theorem missed_prev (c : Clock) (prev : Option Nat) : ({ c with prev := prev } : Clock).missed = { c.missed with prev := prev } := by
  unfold Clock.missed
  dsimp only
  split
  · split <;> rfl
  · rfl

theorem missed_regress (c : Clock) : c.missed.regress = c.regress := by
  unfold Clock.missed
  split
  · split <;> rfl
  · rfl

theorem missed_with_regress (c : Clock) (regress : Bool) :
    ({ c with regress := regress } : Clock).missed = { c.missed with regress := regress } := by
  unfold Clock.missed
  dsimp only
  split
  · split <;> rfl
  · rfl

theorem missesAt_missed (s : State) (prev : Option Nat) : s.missesAt { s.clock.missed with prev := prev } prev := by
  refine ⟨fun hassured hfew => ?_, fun hassured hmany => ?_, fun hnot => ?_⟩
  · rw [Clock.missed, if_pos hassured, if_neg (Nat.not_le.mpr hfew)]
  · rw [Clock.missed, if_pos hassured, if_pos hmany]
    rfl
  · rw [Clock.missed, if_neg hnot]

theorem noteMiss_sends (s : State) : Sends (s.setClock s.clock.missed) (noteMiss s) := by
  unfold noteMiss Clock.missed
  split
  · split
    · exact enterHoldover_sends .misses s
    · exact Sends.refl _
  · exact Sends.refl _

theorem reportNone_onLine (s : State) : OnLine s (reportNone s) :=
  (setClock_onLine s _).trans (noteMiss_sends _).onLine

theorem reportNone_framer (s : State) : (reportNone s).framer = s.framer := (noteMiss_sends _).framer

theorem reportNone_clock (s : State) : (reportNone s).clock = { s.clock.missed with prev := none } :=
  (noteMiss_sends _).clock.trans (missed_prev s.clock none)

/-- The regression flag after a word (R28). -/
def Clock.regressed (c : Clock) (w : Nat) : Clock := { c with regress := c.regress || decide (w < c.floor) }

theorem noteRegression_sends (w : Nat) (s : State) : Sends (s.setClock (s.clock.regressed w)) (noteRegression w s) := by
  unfold noteRegression Clock.regressed
  split
  · next hbelow =>
    rw [decide_eq_true hbelow, Bool.or_true]
    split
    · next hflag =>
      rw [← hflag]
      exact Sends.refl _
    · exact raise_sends _ _
  · next habove =>
    rw [decide_eq_false habove, Bool.or_false]
    exact Sends.refl _

theorem noteRegression_sticky {w : Nat} {s : State} (hrunning : s.running = true) (hnew : s.clock.regress = false)
    (hbelow : w < s.clock.floor) : (noteRegression w s).sticky.getLsbD EventKind.referenceRegressed.code = true := by
  rw [noteRegression, if_pos hbelow, if_neg (by rw [hnew]; exact Bool.false_ne_true)]
  exact raise_sticky _ _ hrunning

/-! ## The clock at a confirmation (R27, R29 to R31) -/

theorem confirms_iff (c : Clock) (w q : Nat) :
    confirms c w q = true ↔ c.prev = some (w - 1) ∧ 1 ≤ w ∧ q ≤ 2 ∧ c.floor ≤ w := by
  have hnext : c.prev.any (fun m => m + 1 == w) = true ↔ c.prev = some (w - 1) ∧ 1 ≤ w := by
    cases c.prev with
    | none => simp
    | some m =>
      rw [Option.any_some, beq_iff_eq, Option.some.injEq]
      omega
  simp only [confirms, Bool.and_eq_true, decide_eq_true_eq, hnext, and_assoc]

/-- The clock after a confirmation (R29 to R31). -/
def Clock.taken (c : Clock) (w q : Nat) : Clock := { c.confirmed w q with lastStep := (c.stepTo w).or c.lastStep }

theorem announceStep_sends (r : StepRecord) (lanesFirst : Bool) (s : State) : Sends s (announceStep r lanesFirst s) := by
  unfold announceStep
  dsimp only
  split
  · exact (raise_sends s _).trans ((stepNotice_sends _).trans (evaluate_sends _))
  · exact (raise_sends s _).trans ((evaluate_sends _).trans (stepNotice_sends _))

/-- The notice of a time state at a confirmation, where it was not ASSURED (R25). -/
def announceConfirmed (before : TimeState) (s : State) : State :=
  if before = .assured then s else announceTimeState before .confirmed s

theorem announceConfirmed_sends (before : TimeState) (s : State) : Sends s (announceConfirmed before s) := by
  unfold announceConfirmed
  split
  · exact Sends.refl s
  · exact announceTimeState_sends _ _ s

theorem confirm_of_same {w q : Nat} {lanesFirst : Bool} {s : State} (h : s.clock.stepTo w = none) :
    confirm w q lanesFirst s = announceConfirmed s.clock.time (s.setClock (s.clock.taken w q)) := by
  simp only [confirm, h, announceConfirmed, Clock.taken, Option.none_or]

theorem confirm_of_step {w q : Nat} {lanesFirst : Bool} {s : State} {r : StepRecord} (h : s.clock.stepTo w = some r) :
    confirm w q lanesFirst s
      = announceConfirmed s.clock.time (announceStep r lanesFirst (s.setClock (s.clock.taken w q))) := by
  simp only [confirm, h, announceConfirmed, Clock.taken, Option.some_or]

theorem confirm_sends (w q : Nat) (lanesFirst : Bool) (s : State) :
    Sends (s.setClock (s.clock.taken w q)) (confirm w q lanesFirst s) := by
  cases h : s.clock.stepTo w with
  | none =>
    rw [confirm_of_same h]
    exact announceConfirmed_sends _ _
  | some r =>
    rw [confirm_of_step h]
    exact (announceStep_sends r lanesFirst _).trans (announceConfirmed_sends _ _)

theorem stepTo_of_other {c : Clock} {old w : Nat} (ht : c.t = some old) (hne : old ≠ w) : c.stepTo w = some {
    delta := max (-2147483647) (min 2147483647 ((w : Int) - old)), excess := decide (c.u < ((w : Int) - old).natAbs), t := w } := by
  simp only [Clock.stepTo, ht, if_neg hne]
  rfl

theorem stepTo_of_same {c : Clock} {w : Nat} (h : c.t = none ∨ c.t = some w) : c.stepTo w = none := by
  obtain h | h := h
  · simp only [Clock.stepTo, h]
  · simp only [Clock.stepTo, h, if_true]

theorem taken_time (c : Clock) (w q : Nat) : (c.taken w q).time = .assured := by
  unfold Clock.taken Clock.confirmed
  dsimp only
  split
  · next h => exact h
  · rfl

theorem taken_usable (c : Clock) (w q : Nat) : (c.taken w q).usable = true := by
  rw [Clock.usable, taken_time]
  rfl

theorem taken_now (c : Clock) (w q : Nat) : (c.taken w q).now = w := by
  unfold Clock.taken Clock.confirmed Clock.now
  dsimp only
  split <;> rfl

theorem confirm_timeState {w q : Nat} {lanesFirst : Bool} {s : State} (hrunning : s.running = true)
    (hnot : s.clock.time ≠ .assured) : (confirm w q lanesFirst s).sticky.getLsbD EventKind.timeState.code = true := by
  cases h : s.clock.stepTo w with
  | none =>
    rw [confirm_of_same h, announceConfirmed, if_neg hnot]
    exact announceTimeState_sticky _ _ hrunning
  | some r =>
    rw [confirm_of_step h, announceConfirmed, if_neg hnot]
    exact announceTimeState_sticky _ _ ((announceStep_sends r lanesFirst _).works.running_eq.trans hrunning)

theorem announceStep_sticky (r : StepRecord) (lanesFirst : Bool) {s : State} (hrunning : s.running = true) :
    (announceStep r lanesFirst s).sticky.getLsbD EventKind.timeStep.code = true := by
  have hraised := raise_sticky s (.timeStep r.delta r.excess) hrunning
  unfold announceStep
  dsimp only
  split
  · exact ((stepNotice_sends _).trans (evaluate_sends _)).sticky _ hraised
  · exact ((evaluate_sends _).trans (stepNotice_sends _)).sticky _ hraised

theorem confirm_timeStep {w q : Nat} {lanesFirst : Bool} {s : State} {r : StepRecord} (hrunning : s.running = true)
    (h : s.clock.stepTo w = some r) : (confirm w q lanesFirst s).sticky.getLsbD EventKind.timeStep.code = true := by
  rw [confirm_of_step h]
  exact (announceConfirmed_sends _ _).sticky _ (announceStep_sticky r lanesFirst hrunning)

/-! ## A confirmation at a lane (R98) -/

theorem announceConfirmed_stays_of_rest {n : LaneIx} {s : State} (before : TimeState) (h : (s.lane n).state.running = false) :
    Stays n s (announceConfirmed before s) := by
  unfold announceConfirmed
  split
  · exact Stays.refl n s
  · exact (evaluate_stays_of_rest h).trans (raise_stays n _ _)

theorem announceConfirmed_stays_of_runs {n : LaneIx} {a : ActiveReel} {last : Nat} {s : State} (before : TimeState)
    (h : s.runsUntil n a last) (hlast : ¬ last + s.clock.u ≤ s.clock.now) : Stays n s (announceConfirmed before s) := by
  unfold announceConfirmed
  split
  · exact Stays.refl n s
  · exact (evaluate_runs h hlast).1.trans (raise_stays n _ _)

theorem confirm_stays {w q : Nat} {lanesFirst : Bool} {s : State} {r : StepRecord} {n : LaneIx} {a : ActiveReel} {last : Nat}
    (hstep : s.clock.stepTo w = some r) (h : s.runsUntil n a last) (hpos : 1 ≤ a.r)
    (hlast : w + (s.clock.taken w q).u + a.r ≤ last) :
    Stays n (s.setClock (s.clock.taken w q)) (confirm w q lanesFirst s) := by
  have hnow := taken_now s.clock w q
  obtain ⟨hstays, hruns⟩ := announceStep_runs (s := s.setClock (s.clock.taken w q)) r lanesFirst
    ⟨h.running, h.active, h.key⟩ (taken_usable ..) hpos (by rw [setClock_clock, hnow]; exact hlast)
  rw [confirm_of_step hstep]
  refine hstays.trans (announceConfirmed_stays_of_runs _ hruns ?_)
  rw [hstays.clock, setClock_clock, hnow]
  omega

theorem confirm_gone {w q : Nat} {lanesFirst : Bool} {s : State} {r : StepRecord} {n : LaneIx} {a : ActiveReel} {last : Nat}
    (hrunning : s.running = true) (hstep : s.clock.stepTo w = some r) (h : s.runsUntil n a last)
    (hlast : last < w + (s.clock.taken w q).u + a.r) : ShowGone n s (confirm w q lanesFirst s) := by
  have hgone := announceStep_gone (s := s.setClock (s.clock.taken w q)) r lanesFirst ⟨h.running, h.active, h.key⟩ hrunning
    (taken_usable ..) (by rw [setClock_clock, taken_now]; exact hlast)
  rw [confirm_of_step hstep]
  obtain ⟨hactive, hstate, hholdings⟩ := hgone.stays (announceConfirmed_stays_of_rest s.clock.time hgone.rest)
  exact ⟨hactive, hstate, hholdings⟩

theorem confirm_stepAtLane {w q old : Nat} {lanesFirst : Bool} {s t : State} (hrunning : s.running = true)
    (ht : s.clock.t = some old) (hne : old ≠ w) (hu : t.clock.u = (s.clock.taken w q).u)
    (hlanes : t.lanes = (confirm w q lanesFirst s).lanes) (hreleases : t.releases = (confirm w q lanesFirst s).releases)
    (n : LaneIx) : s.stepAtLane t w n := by
  intro a k hrun hactive hk hlabel hrevoked hexpired
  have hstep := stepTo_of_other ht hne
  have h : s.runsUntil n a (k.na + k.a) := ⟨hrun, hactive, k, hk, hlabel, hrevoked, hexpired, rfl⟩
  have hlane : t.lane n = (confirm w q lanesFirst s).lane n := congrArg (fun lanes => lanes.get n) hlanes
  have hrel : t.rel n = (confirm w q lanesFirst s).rel n := congrArg (fun releases => releases.get n) hreleases
  rw [hlane, hrel, hu]
  refine ⟨fun hpos hlast => ?_, fun hlast => ?_⟩
  · have hstays := confirm_stays (lanesFirst := lanesFirst) hstep h hpos hlast
    exact ⟨hstays.lane, hstays.rel⟩
  · obtain ⟨hactive', hstate, hholdings⟩ := confirm_gone (lanesFirst := lanesFirst) hrunning hstep h hlast
    exact ⟨hactive', hstate, hholdings⟩

/-! ## A report with a candidate -/

theorem reportCandidate_of_confirms {w q : Nat} (lanesFirst : Bool) {s : State} (h : confirms s.clock w q = true) :
    reportCandidate w q lanesFirst s
      = (confirm w q lanesFirst s).setClock { (confirm w q lanesFirst s).clock with prev := some w } := by
  simp only [reportCandidate, h, if_true]

theorem reportCandidate_of_misses {w q : Nat} (lanesFirst : Bool) {s : State} (h : confirms s.clock w q = false) :
    reportCandidate w q lanesFirst s
      = (noteMiss (noteRegression w s)).setClock { (noteMiss (noteRegression w s)).clock with prev := some w } := by
  simp only [reportCandidate, h, Bool.false_eq_true, if_false]

theorem regressedMiss_sends (w : Nat) (s : State) :
    Sends (s.setClock (s.clock.regressed w).missed) (noteMiss (noteRegression w s)) := by
  have hregress := noteRegression_sends w s
  have hmiss := noteMiss_sends (noteRegression w s)
  rw [hregress.clock] at hmiss
  exact (hregress.withLine s.framer (s.clock.regressed w).missed).trans (by
    rw [show s.framer = (noteRegression w s).framer from hregress.framer.symm]
    exact hmiss)

theorem reportCandidate_onLine (w q : Nat) (lanesFirst : Bool) (s : State) : OnLine s (reportCandidate w q lanesFirst s) := by
  cases h : confirms s.clock w q with
  | true =>
    rw [reportCandidate_of_confirms lanesFirst h]
    exact (confirm_sends w q lanesFirst s).onLine.trans (setClock_onLine _ _)
  | false =>
    rw [reportCandidate_of_misses lanesFirst h]
    exact (regressedMiss_sends w s).onLine.trans (setClock_onLine _ _)

theorem reportCandidate_framer (w q : Nat) (lanesFirst : Bool) (s : State) : (reportCandidate w q lanesFirst s).framer = s.framer := by
  cases h : confirms s.clock w q with
  | true =>
    rw [reportCandidate_of_confirms lanesFirst h]
    exact (confirm_sends w q lanesFirst s).framer
  | false =>
    rw [reportCandidate_of_misses lanesFirst h]
    exact (regressedMiss_sends w s).framer

/-! ## Capture and delivery (R15, R17, R18) -/

theorem captureBroadcast_framed (bytes : List Byte) (s : State) : Framed s (captureBroadcast bytes s) := by
  unfold captureBroadcast
  dsimp only
  split
  · exact (setFramer_framed s _).trans (raise_framed _ _)
  · exact setFramer_framed s _

theorem captureBroadcast_framer (bytes : List Byte) (s : State) : (captureBroadcast bytes s).framer = { s.framer with
    heldBytes := some bytes
    captured := (if s.framer.heldBytes = some bytes then some bytes else s.framer.captured) } := by
  unfold captureBroadcast
  dsimp only
  split
  · next h =>
    obtain ⟨hheld, -⟩ := h
    rw [raise_framer, setFramer_framer, if_pos hheld, ← hheld]
  · next h =>
    rw [setFramer_framer]
    split
    · next hheld => rw [← not_not.mp (fun hne => h ⟨hheld, hne⟩)]
    · rfl

theorem captureBroadcast_sticky {bytes : List Byte} {s : State} (hrunning : s.running = true)
    (hheld : s.framer.heldBytes = some bytes) (hnew : s.framer.captured ≠ some bytes) :
    (captureBroadcast bytes s).sticky.getLsbD EventKind.broadcastChanged.code = true := by
  rw [captureBroadcast, if_pos ⟨hheld, hnew⟩]
  exact raise_sticky _ _ hrunning

/-- The framer with a superframe's source and quality kept (R15). -/
def Framer.heard (f : Framer) (covered : List LineBit) : Framer :=
  { f with lastSource := some (sourceId covered), lastQuality := some (quality covered) }

theorem deliver_eq (covered : List LineBit) (lanesFirst : Bool) (s : State) : deliver covered lanesFirst s
    = captureBroadcast (broadcast covered)
        (reportCandidate (timeWord covered) (quality covered) lanesFirst (s.setFramer (s.framer.heard covered))) := rfl

theorem deliver_onLine (covered : List LineBit) (lanesFirst : Bool) (s : State) : OnLine s (deliver covered lanesFirst s) := by
  rw [deliver_eq]
  exact ((setFramer_onLine s _).trans (reportCandidate_onLine ..)).trans (captureBroadcast_framed ..).onLine

theorem deliver_framer (covered : List LineBit) (lanesFirst : Bool) (s : State) : (deliver covered lanesFirst s).framer =
    { s.framer.heard covered with
      heldBytes := some (broadcast covered)
      captured := (if s.framer.heldBytes = some (broadcast covered) then some (broadcast covered) else s.framer.captured) } := by
  rw [deliver_eq, captureBroadcast_framer, reportCandidate_framer]
  rfl

theorem deliver_clock (covered : List LineBit) (lanesFirst : Bool) (s : State) : (deliver covered lanesFirst s).clock =
    (reportCandidate (timeWord covered) (quality covered) lanesFirst (s.setFramer (s.framer.heard covered))).clock := by
  rw [deliver_eq, (captureBroadcast_framed ..).clock]

/-! ## O56: the strict tests (R8, R9) -/

theorem strictConfirmTest_of_due {s : State} {c : Candidate} (lanesFirst : Bool) (hrunning : s.running = true)
    (hconfirm : s.framer.state = .confirm) (hfresh : s.framer.fresh = true) (hc : s.framer.candidate = some c)
    (hstrict : c.strict = true) : strictConfirmTest lanesFirst s =
      if c.age = 128 ∨ c.age = 256 then
        s.setFramer (if s.framer.patternMatch then { s.framer with fresh := false } else s.framer.dropCandidate)
      else if c.age = 304 then
        match s.framer.strictCheck c with
        | some covered => deliver covered lanesFirst (declareAlignment c.position s)
        | none => s.setFramer s.framer.dropCandidate
      else s := by
  unfold strictConfirmTest
  dsimp only
  rw [hc]
  exact if_pos (by rw [hrunning, hconfirm, hfresh, hstrict]; rfl)

/-- Settles O56. -/
theorem strictConfirmTestsTheCandidate : Obligations.StrictConfirmTestsTheCandidate := by
  intro c lanesFirst s hrunning hconfirm hfresh hc hstrict
  have htest := strictConfirmTest_of_due lanesFirst hrunning hconfirm hfresh hc hstrict
  refine ⟨fun hage => ?_, fun hage hno => ?_, fun covered hage hcheck => ?_⟩
  · rw [if_pos hage] at htest
    exact congrArg Host.Outcome.next htest
  · rw [if_neg (by omega), if_pos hage, hno] at htest
    exact congrArg Host.Outcome.next htest
  · rw [if_neg (by omega), if_pos hage, hcheck] at htest
    have hframer := deliver_framer covered lanesFirst (declareAlignment c.position s)
    rw [declareAlignment_framer] at hframer
    refine ⟨_, congrArg Host.Outcome.next htest, ?_, ?_, ?_, ?_, ?_, ?_,
      ((declareAlignment_framed c.position s).onLine.trans (deliver_onLine ..)).keepsRest⟩
    · rw [hframer]; rfl
    · rw [hframer]; rfl
    · rw [hframer]; rfl
    · rw [hframer]; rfl
    · rw [hframer]; rfl
    · rw [deliver_clock]; rfl

/-! ## O59: the superframe end -/

/-- The framer's record of a superframe end taken (R12). -/
def Framer.ended (f : Framer) : Framer := { f.advanceCheckWindow with awaiting := none, fresh := false }

theorem ended_eq (f : Framer) : f.ended = { f with
    checkEnds := (if 16 ≤ f.checkEnds then 1 else f.checkEnds + 1)
    checkFails := (if 16 ≤ f.checkEnds then 0 else f.checkFails), awaiting := none, fresh := false } := by
  unfold Framer.ended Framer.advanceCheckWindow
  split <;> rfl

theorem ended_state (f : Framer) : f.ended.state = f.state := by rw [ended_eq]
theorem ended_counters (f : Framer) : f.ended.counters = f.counters := by rw [ended_eq]
theorem ended_heldBytes (f : Framer) : f.ended.heldBytes = f.heldBytes := by rw [ended_eq]
theorem ended_captured (f : Framer) : f.ended.captured = f.captured := by rw [ended_eq]

/-- The framer's record of a failed check (R12, R17). -/
def Framer.failed (f : Framer) : Framer := { f.ended.countCheckError with heldBytes := none }

theorem superframeEnd_of_due {s : State} (lanesFirst : Bool) (hrunning : s.running = true) (haligned : s.framer.state = .aligned)
    (hfresh : s.framer.fresh = true) (hperiod : s.framer.superframePeriod = 105) : superframeEnd lanesFirst s =
      match s.framer.awaiting with
      | none => reportNone (s.setFramer { s.framer.ended with heldBytes := none })
      | some covered =>
        if checkPasses covered s.framer.carriedCheck then deliver covered lanesFirst (s.setFramer s.framer.ended)
        else if s.framer.failed.checkLimitReached then loseAlignment .check (s.setFramer s.framer.failed)
        else reportNone (s.setFramer s.framer.failed) :=
  if_pos (by rw [hrunning, Framer.endDue, haligned, hfresh, hperiod]; rfl)

/-- A passing superframe end's clock where the word is confirmed (R27, R29 to R31). -/
theorem deliver_confirms {covered : List LineBit} {lanesFirst : Bool} {s : State} (f : Framer) (hrunning : s.running = true)
    (h : confirms s.clock (timeWord covered) (quality covered) = true) :
    s.confirmsTo (deliver covered lanesFirst (s.setFramer f)) (timeWord covered) (quality covered) := by
  let s1 := (s.setFramer f).setFramer (f.heard covered)
  have hreport := reportCandidate_of_confirms lanesFirst (s := s1) h
  have hsends := confirm_sends (timeWord covered) (quality covered) lanesFirst s1
  have hclock : (deliver covered lanesFirst (s.setFramer f)).clock
      = { s.clock.taken (timeWord covered) (quality covered) with prev := some (timeWord covered) } := by
    rw [deliver_clock]
    change (reportCandidate _ _ lanesFirst s1).clock = _
    rw [hreport, setClock_clock, hsends.clock]
    rfl
  have hframed : Framed ((confirm (timeWord covered) (quality covered) lanesFirst s1).setClock
      { (confirm (timeWord covered) (quality covered) lanesFirst s1).clock with prev := some (timeWord covered) })
      (deliver covered lanesFirst (s.setFramer f)) := by
    rw [deliver_eq, ← hreport]
    exact captureBroadcast_framed _ _
  have hsticky (i : Nat) (hi : (confirm (timeWord covered) (quality covered) lanesFirst s1).sticky.getLsbD i = true) :
      (deliver covered lanesFirst (s.setFramer f)).sticky.getLsbD i = true := hframed.works.sticky i hi
  rw [State.confirmsTo, hclock]
  refine ⟨fun hassured => ?_, fun hnot => ⟨?_, hsticky _ (confirm_timeState hrunning hnot)⟩, fun hsame => ?_, fun old ht hne => ?_⟩
  · simp only [Clock.taken, Clock.confirmed, if_pos hassured]
  · simp only [Clock.taken, Clock.confirmed, if_neg hnot]
  · simp only [Clock.taken, stepTo_of_same hsame, Option.none_or]
  · have hstep := stepTo_of_other ht hne
    refine ⟨?_, hsticky _ (confirm_timeStep hrunning (s := s1) hstep), fun n => ?_⟩
    · simp only [Clock.taken, hstep, Option.some_or]
    · refine confirm_stepAtLane (s := s1) (q := quality covered) (lanesFirst := lanesFirst) hrunning ht hne ?_
        hframed.quiet.lanes hframed.quiet.releases n
      rw [hclock]
      rfl

/-- A passing superframe end's clock where the word is not confirmed (R27, R28, R32). -/
theorem deliver_misses {covered : List LineBit} {lanesFirst : Bool} {s : State} (f : Framer) (hrunning : s.running = true)
    (h : confirms s.clock (timeWord covered) (quality covered) = false) :
    (deliver covered lanesFirst (s.setFramer f)).clock
        = { (s.clock.regressed (timeWord covered)).missed with prev := some (timeWord covered) }
      ∧ (s.clock.regress = false → timeWord covered < s.clock.floor →
        (deliver covered lanesFirst (s.setFramer f)).sticky.getLsbD EventKind.referenceRegressed.code = true) := by
  let s1 := (s.setFramer f).setFramer (f.heard covered)
  have hreport := reportCandidate_of_misses lanesFirst (s := s1) h
  refine ⟨?_, fun hnew hbelow => ?_⟩
  · rw [deliver_clock]
    change (reportCandidate _ _ lanesFirst s1).clock = _
    rw [hreport, setClock_clock, (regressedMiss_sends _ s1).clock]
    rfl
  · have hraised := (noteMiss_works _).sticky _ (noteRegression_sticky (s := s1) hrunning hnew hbelow)
    rw [deliver_eq]
    change (captureBroadcast _ (reportCandidate _ _ lanesFirst s1)).sticky.getLsbD _ = true
    rw [hreport]
    exact (captureBroadcast_framed _ _).works.sticky _ hraised

/-- A second equal record in a row that changes the captured bytes is told (R17). -/
theorem deliver_captures {covered : List LineBit} {lanesFirst : Bool} {s : State} (hrunning : s.running = true)
    (hheld : s.framer.heldBytes = some (broadcast covered)) (hnew : s.framer.captured ≠ some (broadcast covered)) :
    (deliver covered lanesFirst s).sticky.getLsbD EventKind.broadcastChanged.code = true := by
  rw [deliver_eq]
  refine captureBroadcast_sticky ((reportCandidate_works ..).running_eq.trans hrunning) ?_ ?_
  · rw [reportCandidate_framer]; exact hheld
  · rw [reportCandidate_framer]; exact hnew

/-- The clock that a regressing or missing word leaves, its regression flag apart (R28, R32). -/
theorem missesAt_regressed (s : State) (w : Nat) (prev : Option Nat) :
    s.missesAt { ({ (s.clock.regressed w).missed with prev := prev } : Clock) with regress := s.clock.regress } prev := by
  have hmisses := missesAt_missed s prev
  rwa [Clock.regressed, missed_with_regress, ← missed_regress s.clock]

theorem failed_eq (f : Framer) {fails : Nat} (h : fails = if 16 ≤ f.checkEnds then 1 else f.checkFails + 1) :
    f.failed = { f.ended with
      heldBytes := none, checkFails := fails
      counters := { f.counters with checkErrors := min 65535 (f.counters.checkErrors + 1) } } := by
  rw [Framer.failed, ended_eq, h]
  split <;> rfl

theorem checkLimitReached_failed {f : Framer} {fails : Nat} (h : fails = if 16 ≤ f.checkEnds then 1 else f.checkFails + 1) :
    f.failed.checkLimitReached = true ↔ f.checkLossTaken = true ∧ f.eTaken ≤ fails := by
  rw [failed_eq f h, ended_eq, Framer.checkLimitReached, Bool.and_eq_true, decide_eq_true_iff]

/-- Settles O59. -/
theorem superframeEndReports : Obligations.SuperframeEndReports := by
  intro lanesFirst s hrunning haligned hfresh hperiod
  have hend := superframeEnd_of_due lanesFirst hrunning haligned hfresh hperiod
  refine ⟨fun hnone => ?_, fun covered hcovered hpasses => ?_, fun covered fails hcovered hfails hcount => ?_⟩
  · rw [hnone] at hend
    refine ⟨_, congrArg Host.Outcome.next hend, ((setFramer_onLine s _).trans (reportNone_onLine _)).keepsRest, ?_, ?_, ?_⟩
    · rw [reportNone_framer, setFramer_framer, ended_eq]; exact haligned
    · rw [reportNone_framer]; rfl
    · rw [reportNone_clock]; exact missesAt_missed s none
  · rw [hcovered] at hend
    dsimp only at hend
    rw [if_pos hpasses] at hend
    have hframer := deliver_framer covered lanesFirst (s.setFramer s.framer.ended)
    refine ⟨_, congrArg Host.Outcome.next hend, ((setFramer_onLine s _).trans (deliver_onLine ..)).keepsRest, ?_⟩
    rw [hframer]
    refine ⟨(ended_state s.framer).trans haligned, rfl, rfl, ended_counters s.framer, rfl, ?_, fun hheld hnew => ?_,
      fun hprev hpos hq hfloor => ?_, fun hnot => ?_⟩
    · simp only [setFramer_framer, ended_heldBytes, ended_captured]
    · exact deliver_captures hrunning ((ended_heldBytes _).trans hheld) (by rw [setFramer_framer, ended_captured]; exact hnew)
    · exact deliver_confirms _ hrunning ((confirms_iff ..).mpr ⟨hprev, hpos, hq, hfloor⟩)
    · have hmiss : confirms s.clock (timeWord covered) (quality covered) = false := by
        rw [Bool.eq_false_iff, ne_eq, confirms_iff]
        rintro ⟨hprev, hpos, hq, hfloor⟩
        obtain h | h | h | h := hnot
        · exact h hprev
        · omega
        · omega
        · omega
      obtain ⟨hclock, hsticky⟩ := deliver_misses s.framer.ended (lanesFirst := lanesFirst) hrunning hmiss
      rw [hclock]
      exact ⟨missesAt_regressed s _ _, missed_regress _, hsticky⟩
  · rw [hcovered] at hend
    dsimp only at hend
    rw [if_neg (by rw [hfails]; exact Bool.false_ne_true)] at hend
    have hfailed := failed_eq s.framer hcount
    by_cases hlimit : s.framer.checkLossTaken = true ∧ s.framer.eTaken ≤ fails
    · rw [if_pos ((checkLimitReached_failed hcount).mpr hlimit)] at hend
      obtain ⟨hloss, hreached⟩ := hlimit
      refine ⟨_, congrArg Host.Outcome.next hend, ((setFramer_onLine s _).trans (loseAlignment_onLine ..)).keepsRest, ?_⟩
      rw [loseAlignment_framer, loseAlignment_clock, setFramer_framer, setFramer_clock, hfailed]
      refine ⟨rfl, rfl, rfl, lost_prev _, fun hkeeps => ?_, fun _ _ => ⟨rfl, rfl, rfl, fun hassured => ?_, fun hnot => ?_⟩⟩
      · obtain hoff | hbelow := hkeeps
        · exact absurd (hoff.symm.trans hloss) Bool.false_ne_true
        · omega
      · rw [Clock.lost, if_pos hassured]; rfl
      · rw [Clock.lost, if_neg hnot]
    · rw [if_neg (mt (checkLimitReached_failed hcount).mp hlimit)] at hend
      refine ⟨_, congrArg Host.Outcome.next hend, ((setFramer_onLine s _).trans (reportNone_onLine _)).keepsRest, ?_⟩
      rw [reportNone_framer, reportNone_clock, setFramer_framer, hfailed]
      exact ⟨rfl, rfl, rfl, rfl, fun _ => ⟨(ended_state s.framer).trans haligned, rfl, missesAt_missed s none⟩,
        fun hloss hreached => absurd ⟨hloss, hreached⟩ hlimit⟩

end Sys2Proof.Machine
end


section
/-! PROOFS. The oscillator's cycle and the tick at the clock (R23, R24, R35 to R37, R39). -/

namespace Sys2Proof.Machine

/-! ## The holdover figures one tick on (R35, R36) -/

/-- The growth of the uncertainty one tick on (R36). -/
def Clock.grown (c : Clock) (um : Nat) : Nat := if um < 3600000 then c.acc + c.params.r else c.acc

theorem advance_eq {c : Clock} {tm um hm : Nat} (ht : c.t = some tm) (hum : c.uMs = some um) (hh : c.h = some hm) :
    c.advanceT.advanceHoldover = { c with
      t := some (min 4294967295 (tm + 1)), h := some (min 4294967295 (hm + 1)), acc := c.grown um
      uMs := some (min 3600000 (c.u0 + (c.grown um + 999) / 1000)) } := by
  simp only [Clock.advanceT, Clock.advanceHoldover, ht, hum, hh]
  rfl

/-- The uncertainty one tick on, in seconds (R36). -/
def Clock.nextU (c : Clock) (um : Nat) : Nat := (min 3600000 (c.u0 + (c.grown um + 999) / 1000) + 999) / 1000

theorem advance_u {c : Clock} {um : Nat} (hum : c.uMs = some um) : c.advanceT.advanceHoldover.u = c.nextU um := by
  simp only [Clock.u, Clock.advanceHoldover, Clock.advanceT, hum]
  rfl

theorem advance_t {c : Clock} {tm : Nat} (ht : c.t = some tm) :
    c.advanceT.advanceHoldover.t = some (min 4294967295 (tm + 1)) := by
  simp only [Clock.advanceHoldover, Clock.advanceT, ht]
  rfl

theorem advance_now {c : Clock} {tm : Nat} (ht : c.t = some tm) :
    c.advanceT.advanceHoldover.now = min 4294967295 (tm + 1) := by
  rw [Clock.now, advance_t ht, Option.getD_some]

/-- The clock of a tick outside ASSURED: the figures move on, and HOLDOVER raises the floor or ends at its ceiling (R24, R37, R39). -/
theorem clockTick_clock_holdover {s : State} {tm um hm u : Nat} (hheld : s.clock.time = .holdover ∨ s.clock.time = .unassured)
    (ht : s.clock.t = some tm) (hum : s.clock.uMs = some um) (hh : s.clock.h = some hm)
    (hu : u = s.clock.nextU um) : (clockTick s).clock = { s.clock with
      t := some (min 4294967295 (tm + 1)), h := some (min 4294967295 (hm + 1)), acc := s.clock.grown um
      uMs := some (min 3600000 (s.clock.u0 + (s.clock.grown um + 999) / 1000))
      time := (if s.clock.time = .holdover ∧ s.clock.params.uc < u then .unassured else s.clock.time)
      floor := (if s.clock.time = .holdover ∧ u ≤ s.clock.params.uc then max s.clock.floor (min 4294967295 (tm + 1) - u)
        else s.clock.floor) } := by
  have hadvanced := advance_eq ht hum hh
  have hseconds := (advance_u hum).trans hu.symm
  rw [clockTick_clock]
  obtain htime | htime := hheld
  · rw [htime]
    dsimp only
    by_cases hover : s.clock.params.uc < u
    · rw [if_pos (by rw [hseconds]; exact hover), hadvanced, if_pos ⟨rfl, hover⟩, if_neg (by omega)]
    · have hraised : s.clock.advanceT.advanceHoldover.raiseFloor
          = { s.clock.advanceT.advanceHoldover with floor := max s.clock.floor (min 4294967295 (tm + 1) - u) } := by
        rw [Clock.raiseFloor, hseconds, advance_now ht]
        rfl
      rw [if_neg (by rw [hseconds]; exact hover), hraised, hadvanced, if_neg (fun h => hover h.2),
        if_pos ⟨rfl, Nat.not_lt.mp hover⟩, htime]
  · rw [htime]
    dsimp only
    rw [hadvanced, if_neg (by rintro ⟨h, -⟩; nomatch h), if_neg (by rintro ⟨h, -⟩; nomatch h), htime]

/-! ## Idle cycles and elapsed ticks (R23) -/

theorem exec_elapsedTick {apart : List TickPart} {s : State} (hretained : s.retained = true) (hnot : s.clock.time ≠ .assured) :
    exec (.elapsedTick apart) s = .next (tick apart (passBoundary s)) :=
  congrArg Host.Outcome.next (if_pos (Bool.and_eq_true_iff.mpr ⟨hretained, bne_iff_ne.mpr hnot⟩))

/-- The second boundary moves the oscillator's count and no figure of the clock (R23). -/
theorem passBoundary_figures (s : State) : (passBoundary s).clock.time = s.clock.time ∧ (passBoundary s).clock.t = s.clock.t
    ∧ (passBoundary s).clock.uMs = s.clock.uMs ∧ (passBoundary s).clock.h = s.clock.h := by
  rw [passBoundary_clock]
  exact ⟨rfl, rfl, rfl, rfl⟩

/-- A clock in HOLDOVER whose next tick passes the ceiling (R37). -/
def Clock.atCeiling (c : Clock) (um : Nat) : Prop := c.time = .holdover ∧ c.uMs = some um ∧ c.params.uc < c.nextU um

theorem passBoundary_atCeiling {s : State} {um : Nat} (h : s.clock.atCeiling um) : (passBoundary s).clock.atCeiling um := by
  rw [passBoundary_clock]
  simpa only [Clock.atCeiling, Clock.nextU, Clock.grown] using h

theorem clockTick_clock_ceiling {s : State} {um : Nat} (h : s.clock.atCeiling um) :
    (clockTick s).clock = { s.clock.advanceT.advanceHoldover with time := .unassured } := by
  obtain ⟨hheld, hum, hover⟩ := h
  rw [clockTick_clock, hheld]
  exact if_pos (by rw [advance_u hum]; exact hover)

theorem boundaryTick_settings (apart : List TickPart) (s : State) : s.keepsSettings (tick apart (passBoundary s)) :=
  ((setClock_works s _).trans (tick_works apart _)).settings

theorem exec_ceilingPassed {apart : List TickPart} {s : State} {um : Nat} (hretained : s.retained = true)
    (h : s.clock.atCeiling um) : exec (.ceilingPassed apart) s = .next (tick apart (passBoundary s)) := by
  obtain ⟨hheld, hum, hover⟩ := h
  have hnext : s.clock.ceilingNext = true := by
    rw [Clock.ceilingNext, hheld, advance_u hum, decide_eq_true hover]
    rfl
  refine congrArg Host.Outcome.next (if_pos ?_)
  rw [(settleTick_works s).2, hretained, hnext]
  rfl

/-- A tick past the ceiling ends HOLDOVER and tells it (R37). -/
theorem tick_ceiling_sticky {apart : List TickPart} {s : State} {um : Nat} (hrunning : s.running = true)
    (h : s.clock.atCeiling um) : (tick apart s).sticky.getLsbD EventKind.timeState.code = true := by
  refine (handOn_works apart _).1.sticky _ ?_
  have hclock := (settleTick_works s).2
  rw [← hclock] at h
  obtain ⟨hheld, hum, hover⟩ := h
  have hpassed : clockTick (settleTick s) = passCeiling ((settleTick s).setClock (settleTick s).clock.advanceT.advanceHoldover) := by
    simp only [clockTick, hheld]
    exact if_pos (by rw [advance_u hum]; exact hover)
  rw [hpassed]
  exact announceTimeState_sticky _ _ ((settleTick_works s).1.running_eq.trans hrunning)

/-- Settles O2. -/
theorem idleCyclesAndElapsedTicks : Obligations.IdleCyclesAndElapsedTicks := by
  refine ⟨fun s hidle hretained => ?_, fun apart s tm um hm hretained => ?_, fun apart s tm um hretained hheld ht hum hgrows hover => ?_⟩
  · have hstep : step s = .next (oscillatorCycle s) := by rw [step, hidle]
    rw [oscillatorCycle_cases, if_pos hretained] at hstep
    refine ⟨fun hcounts => hstep.trans ?_, fun hfull hnot => hstep.trans ?_⟩
    · rw [if_pos hcounts]
      rfl
    · rw [if_neg (not_or.mpr ⟨Nat.not_lt.mpr hfull, hnot⟩)]
      rfl
  · refine ⟨fun hno => ⟨_, exec_elapsedTick hretained (by rw [hno]; nofun), ?_, boundaryTick_settings apart s⟩,
      fun hheld ht hum hh => ⟨_, _, _, exec_elapsedTick hretained ?_, rfl, rfl, ?_, boundaryTick_settings apart s⟩⟩
    · rw [tick_clock, clockTick_clock, passBoundary_clock]
      simp only [hno]
    · obtain h | h := hheld <;> rw [h] <;> nofun
    · obtain ⟨ktime, kt, kum, kh⟩ := passBoundary_figures s
      have hticked := clockTick_clock_holdover (s := passBoundary s) (by rw [ktime]; exact hheld) (kt.trans ht) (kum.trans hum)
        (kh.trans hh) rfl
      rw [tick_clock, hticked, passBoundary_clock]
      rfl
  · have hceiling : s.clock.atCeiling um := ⟨hheld, hum, by rw [Clock.nextU, Clock.grown, if_pos hgrows]; exact hover⟩
    have hpassed := passBoundary_atCeiling hceiling
    have hticked := (tick_clock apart (passBoundary s)).trans (clockTick_clock_ceiling hpassed)
    refine ⟨_, exec_ceilingPassed hretained hceiling, ?_, ?_, ?_, boundaryTick_settings apart s,
      exec_elapsedTick hretained (by rw [hheld]; nofun), fun hrunning => tick_ceiling_sticky ?_ hpassed⟩
    · rw [hticked]
    · rw [hticked]
      exact advance_t ((passBoundary_figures s).2.1.trans ht)
    · rw [hticked, passBoundary_clock]
      rfl
    · exact (setClock_works s _).running_eq.trans hrunning

end Sys2Proof.Machine
end


section
/-! PROOFS. The supplies and the reset input: main failing, main returning, the reset input held and released (R23, R44 to R46, R71, R72, R152, R153, R180 to R185). -/

namespace Sys2Proof.Machine

/-! ## The clock leaves main (R44, R45) -/

/-- The clock as main failing or a main reset leaves it (R44, R45). -/
def Clock.leavingMain (c : Clock) (regress : Bool) : Clock :=
  { (if c.time = .assured then c.toHoldover else c) with prev := none, miss := 0, regress := regress }

theorem leavingMain_of_assured {c : Clock} (regress : Bool) (h : c.time = .assured) : c.leavingMain regress =
    { c with time := .holdover, u0 := c.uMs.getD 0, acc := 0, h := some 0, miss := 0, prev := none, regress := regress } := by
  rw [Clock.leavingMain, if_pos h]
  rfl

theorem leavingMain_of_not {c : Clock} (regress : Bool) (h : c.time ≠ .assured) :
    c.leavingMain regress = { c with miss := 0, prev := none, regress := regress } := by
  rw [Clock.leavingMain, if_neg h]

theorem clockLeavesMain_of_assured {s : State} (regress : Bool) (h : s.clock.time = .assured) :
    clockLeavesMain regress s = evaluate (s.setClock (s.clock.leavingMain regress)) := by
  simp only [clockLeavesMain, h, if_true, Clock.leavingMain]

theorem clockLeavesMain_of_not {s : State} (regress : Bool) (h : s.clock.time ≠ .assured) :
    clockLeavesMain regress s = s.setClock (s.clock.leavingMain regress) := by
  simp only [clockLeavesMain, h, if_false, Clock.leavingMain]

theorem clockLeavesMain_sends (regress : Bool) (s : State) :
    Sends (s.setClock (s.clock.leavingMain regress)) (clockLeavesMain regress s) := by
  by_cases h : s.clock.time = .assured
  · rw [clockLeavesMain_of_assured regress h]
    exact evaluate_sends _
  · rw [clockLeavesMain_of_not regress h]
    exact Sends.refl _

/-! ## The blocks in reset (R181, R183) -/

/-- The part after the clock has left main with the supplies at new levels, its blocks in reset. -/
def State.leftMain (s : State) (supply : Supply) (regress : Bool) : State :=
  restartBlocks (clockLeavesMain regress { s with supply := supply })

theorem afterReset_congr {r r' : Release} (h : r.holdings = r'.holdings) : r.afterReset = r'.afterReset := by
  rw [Release.afterReset, Release.afterReset, h]

section leftMain

variable (s : State) (supply : Supply) (regress : Bool)

theorem leftMain_supply : (s.leftMain supply regress).supply = supply := (clockLeavesMain_sends regress { s with supply := supply }).supply

theorem leftMain_clock : (s.leftMain supply regress).clock = s.clock.leavingMain regress :=
  (clockLeavesMain_sends regress { s with supply := supply }).clock

theorem leftMain_pending : (s.leftMain supply regress).pending = s.pending :=
  (clockLeavesMain_sends regress { s with supply := supply }).pending

theorem leftMain_lane (n : LaneIx) : (s.leftMain supply regress).lane n = .afterReset := get_sixteen _ n

theorem leftMain_port (n : LaneIx) : (s.leftMain supply regress).port n = .afterReset := get_sixteen _ n

theorem leftMain_link (p : PortId) : (s.leftMain supply regress).link p = .afterReset := by
  cases p with
  | mgmt => rfl
  | screen n => exact congrArg ScreenPort.link (leftMain_port s supply regress n)

theorem leftMain_rel (n : LaneIx) : (s.leftMain supply regress).rel n = (s.rel n).afterReset :=
  (get_map _ Release.afterReset n).trans
    (afterReset_congr (clockLeavesMain_holdings regress { s with supply := supply } n))

theorem leftMain_keys_of_not (h : s.clock.time ≠ .assured) : (s.leftMain supply regress).keys = s.keys := by
  change (clockLeavesMain regress { s with supply := supply }).keys = s.keys
  rw [clockLeavesMain_of_not (s := { s with supply := supply }) regress h]
  rfl

theorem leftMain_keys_of_assured (h : s.clock.time = .assured) : (s.leftMain supply regress).keys
    = (evaluate { s with supply := (s.leftMain supply regress).supply, clock := (s.leftMain supply regress).clock }).keys := by
  rw [leftMain_supply, leftMain_clock]
  change (clockLeavesMain regress { s with supply := supply }).keys = _
  rw [clockLeavesMain_of_assured (s := { s with supply := supply }) regress h]
  rfl

end leftMain

theorem lamp_of_rest {s : State} (h : s.running = false) : lamp s = .off := by
  rw [lamp, h]
  rfl

theorem running_of_inReset {s : State} (h : s.supply.inReset = true) : s.running = false := by
  rw [State.running, h, Bool.not_true, Bool.and_false]

theorem failMain_leftMain {s : State} (h : s.supply.mainOn = true) : failMain s = (settleDue s).leftMain
    { s.supply with mainOn := false, inReset := false, backupLostOwed := false } (settleDue s).clock.regress := failMain_of_on h

theorem mainReset_leftMain (s : State) : mainReset s = s.leftMain { s.supply with inReset := true } false := rfl

/-! ## O50: the reset input (R183 to R185) -/

theorem assertReset_leftMain {s : State} (h : s.supply.mainOn = true) (hp : s.supply.resetPin = false) : assertReset s
    = (settleDue s).leftMain { s.supply with resetPin := true, inReset := true } false := assertReset_of_on h hp

theorem assertReset_of_held {s : State} (h : s.supply.resetPin = true) : assertReset s = s := if_pos h

theorem fittedCount_eq (fit1 fit0 : Bool) :
    fittedCount fit1 fit0 = if fit1 then (if fit0 then 16 else 12) else if fit0 then 8 else 4 := by
  cases fit1 <;> cases fit0 <;> rfl

/-- The state in which the blocks begin work (R183, step 3). -/
def State.begun (s : State) (fit1 fit0 : Bool) : State :=
  { s with supply := { s.supply with
      inReset := false, backupLostOwed := false
      fitted := if fit1 then (if fit0 then 16 else 12) else if fit0 then 8 else 4 } }

theorem endReset_eq (fit1 fit0 : Bool) (s : State) : endReset fit1 fit0 s =
    if s.supply.backupLostOwed = true then (s.begun fit1 fit0).raise .backupLost else s.begun fit1 fit0 := by
  rw [endReset, fittedCount_eq]
  rfl

theorem releaseReset_of_held {s : State} (fit1 fit0 : Bool) (hon : s.supply.mainOn = true) (hpin : s.supply.resetPin = true)
    (hreset : s.supply.inReset = true) :
    releaseReset fit1 fit0 s = endReset fit1 fit0 { s with supply := { s.supply with resetPin := false } } :=
  (if_pos hpin).trans (if_pos (Bool.and_eq_true_iff.mpr ⟨hon, hreset⟩))

/-- Settles O50. -/
theorem resetInputHoldsThePart : Obligations.ResetInputHoldsThePart := by
  refine ⟨fun s hon hpin => ?_, fun fit1 fit0 s hon hpin hreset => ?_⟩
  · intro d
    have hassert := assertReset_leftMain hon hpin
    let supply : Supply := { s.supply with resetPin := true, inReset := true }
    have hsupply : (d.leftMain supply false).supply = supply := leftMain_supply ..
    have hrest : (d.leftMain supply false).running = false := running_of_inReset (by rw [hsupply])
    refine ⟨_, congrArg Host.Outcome.next hassert, hrest, by rw [hsupply], ?_, leftMain_keys_of_not d supply false,
      leftMain_keys_of_assured d supply false, leftMain_lane d supply false, fun n => by rw [leftMain_rel]; rfl,
      leftMain_port d supply false, rfl, rfl, rfl, lamp_of_rest hrest,
      congrArg Host.Outcome.next (assertReset_of_held (by rw [hsupply]))⟩
    rw [leftMain_clock]
    by_cases hassured : d.clock.time = .assured
    · rw [leavingMain_of_assured false hassured]
      simp only [hassured, if_true]
    · rw [leavingMain_of_not false hassured]
      simp only [hassured, if_false]
  · have hrelease := releaseReset_of_held fit1 fit0 hon hpin hreset
    rw [endReset_eq] at hrelease
    refine ⟨fun howed => congrArg Host.Outcome.next (hrelease.trans ?_), fun howed => congrArg Host.Outcome.next (hrelease.trans ?_)⟩
    · exact if_neg (by rw [howed]; exact Bool.false_ne_true)
    · exact if_pos howed

/-! ## O49: main returns (R182, R183) -/

/-- The blocks begin work with a BACKUP LOST to tell (R180). -/
theorem endReset_owed {s : State} (fit1 fit0 : Bool) (hon : s.supply.mainOn = true) (howed : s.supply.backupLostOwed = true)
    (hsticky : s.sticky = 0#17) (hmask : s.mask = BitVec.allOnes 17) (hmgmt : s.mgmt = .afterReset) (ht : s.clock.t = none) : endReset fit1 fit0 s = { s.begun fit1 fit0 with
      sticky := EventKind.backupLost.bit, mgmt := { Link.afterReset with tx := [.notice (.event none .backupLost)] } } := by
  have hrunning : (s.begun fit1 fit0).running = true := Bool.and_eq_true_iff.mpr ⟨hon, rfl⟩
  have hroom : (s.begun fit1 fit0).hasRoom .mgmt = true := hasRoom_of_places _ _ (by
    rw [show (s.begun fit1 fit0).link .mgmt = s.mgmt from rfl, hmgmt]
    decide)
  rw [endReset_eq, if_pos howed, raise_of_room _ _ hrunning hroom]
  simp only [State.begun, hsticky, hmask, hmgmt, ht]
  rfl

theorem returnMain_of_off {s : State} (fit1 fit0 : Bool) (h : s.supply.mainOn = false) : returnMain fit1 fit0 s =
    if (mainReset (readMarker { s with supply := { s.supply with mainOn := true } })).supply.resetPin = true
      then mainReset (readMarker { s with supply := { s.supply with mainOn := true } })
      else endReset fit1 fit0 (mainReset (readMarker { s with supply := { s.supply with mainOn := true } })) :=
  if_neg (by rw [h]; exact Bool.false_ne_true)

/-- The part in main reset after main's return with a good marker: as it was (R183). -/
def State.returned (s : State) : State := s.leftMain { s.supply with mainOn := true, inReset := true } false

/-- The part in main reset after main's return with a bad marker: the Retained Domain cleared (R46, R72, R153, R182). -/
def State.wiped (s : State) : State := mainReset (clearRetained { s with supply := { s.supply with mainOn := true } })

theorem mainReset_of_good {s : State} (h : s.supply.markerGood = true) :
    mainReset (readMarker { s with supply := { s.supply with mainOn := true } }) = s.returned := by
  rw [readMarker, if_pos h]
  rfl

theorem mainReset_of_bad {s : State} (h : s.supply.markerGood = false) :
    mainReset (readMarker { s with supply := { s.supply with mainOn := true } }) = s.wiped := by
  rw [readMarker, if_neg (show ¬ s.supply.markerGood = true by rw [h]; exact Bool.false_ne_true)]
  rfl

theorem returned_supply (s : State) : s.returned.supply = { s.supply with mainOn := true, inReset := true } := leftMain_supply ..

theorem wiped_supply (s : State) : s.wiped.supply =
    { s.supply with mainOn := true, inReset := true, markerGood := true, backupLostOwed := true } := leftMain_supply ..

theorem wiped_clock (s : State) : s.wiped.clock = .cleared := by
  rw [State.wiped, mainReset_leftMain, leftMain_clock]
  rfl

theorem wiped_keys (s : State) : s.wiped.keys = [] := leftMain_keys_of_not _ _ _ nofun

theorem wiped_lane (s : State) (n : LaneIx) : s.wiped.lane n = .afterReset := leftMain_lane ..

theorem wiped_rel (s : State) (n : LaneIx) : s.wiped.rel n = .clear := by
  rw [State.wiped, mainReset_leftMain, leftMain_rel]
  refine (congrArg Release.afterReset (get_map s.releases (fun r => { r with holdings := [] }) n)).trans ?_
  rfl

theorem returned_clock {s : State} (h : s.clock.time ≠ .assured) :
    s.returned.clock = { s.clock with prev := none, miss := 0, regress := false } :=
  (leftMain_clock ..).trans (leavingMain_of_not false h)

theorem returned_rel (s : State) (n : LaneIx) : s.returned.rel n = (s.rel n).afterReset := leftMain_rel ..

theorem returned_lane (s : State) (n : LaneIx) : s.returned.lane n = .afterReset := leftMain_lane ..

theorem returned_keys {s : State} (h : s.clock.time ≠ .assured) : s.returned.keys = s.keys := leftMain_keys_of_not _ _ _ h

/-- The blocks begin work after a clearing (R180). -/
theorem endReset_wiped (fit1 fit0 : Bool) {s u : State} (hu : u = { s.wiped with supply := u.supply })
    (hon : u.supply.mainOn = true) (howed : u.supply.backupLostOwed = true) :
    endReset fit1 fit0 u = { u.begun fit1 fit0 with
      sticky := EventKind.backupLost.bit, mgmt := { Link.afterReset with tx := [.notice (.event none .backupLost)] } } := by
  refine endReset_owed fit1 fit0 hon howed ?_ ?_ ?_ ?_
  · rw [hu]; rfl
  · rw [hu]; rfl
  · rw [hu]; rfl
  · rw [hu]
    exact congrArg Clock.t (wiped_clock s)

theorem lamp_of_noTime {s : State} (hrunning : s.running = true) (htime : s.clock.time = .noTime) : lamp s = .fast := by
  rw [lamp, hrunning, htime]
  rfl

theorem exec_mainPowerUp_of_good {s : State} (fit1 fit0 : Bool) (hoff : s.supply.mainOn = false)
    (hgood : s.supply.markerGood = true) : exec (.mainPowerUp fit1 fit0) s
      = .next (if s.supply.resetPin = true then s.returned else endReset fit1 fit0 s.returned) := by
  refine congrArg Host.Outcome.next ((returnMain_of_off fit1 fit0 hoff).trans ?_)
  rw [mainReset_of_good hgood, returned_supply]

theorem exec_mainPowerUp_of_bad {s : State} (fit1 fit0 : Bool) (hoff : s.supply.mainOn = false)
    (hbad : s.supply.markerGood = false) : exec (.mainPowerUp fit1 fit0) s
      = .next (if s.supply.resetPin = true then s.wiped else endReset fit1 fit0 s.wiped) := by
  refine congrArg Host.Outcome.next ((returnMain_of_off fit1 fit0 hoff).trans ?_)
  rw [mainReset_of_bad hbad, wiped_supply]

theorem mainPowerUp_goesOn (fit1 fit0 : Bool) {s : State} (hoff : s.supply.mainOn = false) (hgood : s.supply.markerGood = true)
    (hpin : s.supply.resetPin = false) (howed : s.supply.backupLostOwed = false) :
    exec (.mainPowerUp fit1 fit0) s = .next (s.returned.begun fit1 fit0) := by
  rw [exec_mainPowerUp_of_good fit1 fit0 hoff hgood, if_neg (by rw [hpin]; exact Bool.false_ne_true), endReset_eq,
    if_neg (by rw [returned_supply, howed]; exact Bool.false_ne_true)]

/-- Settles O49. -/
theorem mainPowerUpReadsTheMarker : Obligations.MainPowerUpReadsTheMarker := by
  refine ⟨fun fit1 fit0 s hoff hgood hpin howed hnot => ?_, fun fit1 fit0 s hoff hbad hpin => ?_,
    fun fit1 fit0 s hoff hpin => ?_⟩
  · have hrel (n : LaneIx) : (s.returned.begun fit1 fit0).rel n = (s.rel n).afterReset := returned_rel s n
    refine ⟨_, mainPowerUp_goesOn fit1 fit0 hoff hgood hpin howed, ?_, rfl, returned_keys hnot, returned_clock hnot,
      returned_lane s, fun n => ?_, fun n => ?_, fun n => ?_, rfl, rfl, rfl⟩
    · exact Bool.and_eq_true_iff.mpr ⟨congrArg Supply.mainOn (returned_supply s), rfl⟩
    · rw [hrel]; rfl
    · rw [hrel]; rfl
    · rw [hrel]; exact ⟨rfl, rfl⟩
  · have hsupply := wiped_supply s
    have hon : s.wiped.supply.mainOn = true := by rw [hsupply]
    have hexec := exec_mainPowerUp_of_bad fit1 fit0 hoff hbad
    rw [if_neg (by rw [hpin]; exact Bool.false_ne_true), endReset_wiped fit1 fit0 rfl hon (by rw [hsupply])] at hexec
    have hrunning : (s.wiped.begun fit1 fit0).running = true := Bool.and_eq_true_iff.mpr ⟨hon, rfl⟩
    refine ⟨_, hexec, hrunning, ?_, wiped_keys s, wiped_rel s, wiped_lane s, wiped_clock s, rfl, rfl,
      lamp_of_noTime hrunning (congrArg Clock.time (wiped_clock s))⟩
    exact congrArg Supply.markerGood hsupply
  · cases hmarker : s.supply.markerGood with
    | true =>
      have hsupply := returned_supply s
      have hrest : s.returned.running = false := running_of_inReset (by rw [hsupply])
      have hexec := exec_mainPowerUp_of_good fit1 fit0 hoff hmarker
      rw [if_pos hpin] at hexec
      refine ⟨_, hexec, hrest, by rw [hsupply], by rw [hsupply]; exact hmarker, by rw [hsupply], rfl, rfl, lamp_of_rest hrest,
        returned_lane s, fun _ hnot => ⟨returned_keys hnot, returned_clock hnot, fun n => ?_⟩, nofun⟩
      rw [returned_rel]
      exact ⟨rfl, rfl⟩
    | false =>
      have hsupply := wiped_supply s
      have hrest : s.wiped.running = false := running_of_inReset (by rw [hsupply])
      have hexec := exec_mainPowerUp_of_bad fit1 fit0 hoff hmarker
      rw [if_pos hpin] at hexec
      refine ⟨_, hexec, hrest, by rw [hsupply], by rw [hsupply], by rw [hsupply], rfl, rfl, lamp_of_rest hrest, wiped_lane s,
        nofun, fun _ => ⟨wiped_keys s, wiped_clock s, wiped_rel s, ?_⟩⟩
      let u : State := { s.wiped with supply := { s.wiped.supply with resetPin := false } }
      have hon : u.supply.mainOn = true := congrArg Supply.mainOn hsupply
      have hrelease : exec (.resetRelease fit1 fit0) s.wiped = .next (endReset fit1 fit0 u) :=
        congrArg Host.Outcome.next (releaseReset_of_held fit1 fit0 hon (by rw [hsupply]; exact hpin) (by rw [hsupply]))
      rw [endReset_wiped (u := u) fit1 fit0 rfl hon (congrArg Supply.backupLostOwed hsupply)] at hrelease
      have hrunning : (u.begun fit1 fit0).running = true := Bool.and_eq_true_iff.mpr ⟨hon, rfl⟩
      exact ⟨_, hrelease, hrunning, rfl, rfl, rfl, lamp_of_noTime hrunning (congrArg Clock.time (wiped_clock s))⟩

/-! ## O48: main fails (R23, R44, R71, R181, R182) -/

/-- The supplies after main has failed (R181). -/
def Supply.failed (p : Supply) : Supply := { p with mainOn := false, inReset := false, backupLostOwed := false }

theorem exec_mainPowerFail {s : State} (h : s.supply.mainOn = true) : exec .mainPowerFail s
    = .next ((settleDue s).leftMain s.supply.failed (settleDue s).clock.regress) := congrArg Host.Outcome.next (failMain_leftMain h)

theorem mainPowerFail_keeps {s : State} (hon : s.supply.mainOn = true) :
    let d := settleDue s
    ∃ t, exec .mainPowerFail s = .next t ∧ t.supply.mainOn = false ∧ t.supply.markerGood = s.supply.markerGood
      ∧ (d.clock.time = .assured → t.clock = { d.clock with
          time := .holdover, u0 := d.clock.uMs.getD 0, acc := 0, h := some 0, miss := 0, prev := none })
      ∧ (d.clock.time ≠ .assured → t.clock = { d.clock with miss := 0, prev := none } ∧ t.keys = d.keys)
      ∧ (d.clock.time = .assured → t.keys = (evaluate { d with supply := t.supply, clock := t.clock }).keys)
      ∧ (∀ n, (t.rel n).holdings = (d.rel n).holdings) ∧ (∀ n, (t.lane n).active = none)
      ∧ (∀ p, (t.link p).tx = []) ∧ (∀ n, (t.port n).state = .unbound) ∧ lamp t = .off := by
  intro d
  have hsupply : (d.leftMain s.supply.failed d.clock.regress).supply = s.supply.failed := leftMain_supply ..
  refine ⟨_, exec_mainPowerFail hon, by rw [hsupply]; rfl, by rw [hsupply]; rfl, fun hassured => ?_, fun hnot => ⟨?_, ?_⟩,
    leftMain_keys_of_assured _ _ _, fun n => ?_, fun n => ?_, fun p => ?_, fun n => ?_, lamp_of_rest ?_⟩
  · exact (leftMain_clock ..).trans (leavingMain_of_assured _ hassured)
  · exact (leftMain_clock ..).trans (leavingMain_of_not _ hnot)
  · exact leftMain_keys_of_not _ _ _ hnot
  · rw [leftMain_rel]; rfl
  · rw [leftMain_lane]; rfl
  · rw [leftMain_link]; rfl
  · rw [leftMain_port]; rfl
  · rw [State.running, hsupply]; rfl

/-! ### A start mark that is due -/

/-- The end of a period at which a superframe start is due has no other instant due, and the start leaves none (R10, R23). -/
theorem settleLine_of_start {s : State} (hrunning : s.running = true) (hrun : s.framer.missingRun < 32)
    (haligned : s.framer.state = .aligned) (hfresh : s.framer.fresh = true) (hperiod : s.framer.superframePeriod = 0)
    (hassured : s.clock.time = .assured) :
    settleLine s = tick [] (restartOscillator (s.setFramer (s.framer.started s.clock.params))) := by
  have hsilence : silenceEntry s = s := if_neg (by
    rw [Framer.silenceDue, decide_eq_false (show ¬ Config.silentRun ≤ s.framer.missingRun from Nat.not_le.mpr hrun), Bool.false_and, Bool.and_false]
    exact Bool.false_ne_true)
  have hclean : cleanWindow s = s := by simp [cleanWindow, haligned]
  have hposition : candidatePosition s = s := by simp [candidatePosition, haligned]
  have hmimic : mimic s = s := by
    unfold mimic
    dsimp only
    split <;> simp [haligned]
  have hconfirm : confirmTest s = s := by
    unfold confirmTest
    dsimp only
    split <;> simp [haligned]
  have hstrict : strictConfirmTest false s = s := by
    unfold strictConfirmTest
    dsimp only
    split <;> simp [haligned]
  have hstart := superframeStart_of_due [] hrunning haligned hfresh hperiod
  rw [if_pos hassured] at hstart
  obtain ⟨-, -, -, hseen⟩ := tick_sameTaken [] (restartOscillator (s.setFramer (s.framer.started s.clock.params)))
  rw [settleLine, hsilence, hclean, hposition, hmimic, hconfirm, hstrict, hstart]
  generalize tick [] (restartOscillator (s.setFramer (s.framer.started s.clock.params))) = u at hseen ⊢
  have hold : u.framer.fresh = false := hseen
  have htest : alignmentTest u = u := by simp [alignmentTest, Framer.testDue, hold]
  have hend : superframeEnd false u = u := by simp [superframeEnd, Framer.endDue, hold]
  rw [htest, hend]

theorem settleDue_of_start {s : State} {tm : Nat} (hrunning : s.running = true) (hnext : s.framer.nextStart = false)
    (hrun : s.framer.missingRun < 32) (haligned : s.framer.state = .aligned) (hfresh : s.framer.fresh = true)
    (hperiod : s.framer.superframePeriod = 0) (hassured : s.clock.time = .assured) (ht : s.clock.t = some tm) :
    (settleDue s).clock = { s.clock with
      osc := 0, t := some (min 4294967295 (tm + 1)), floor := max s.clock.floor (min 4294967295 (tm + 1) - s.clock.u) } := by
  have hclosed : closePeriod s = s := if_neg (by rw [hnext, Bool.and_false]; exact Bool.false_ne_true)
  rw [settleDue, hclosed, (settleTick_works _).2, settleLine_of_start hrunning hrun haligned hfresh hperiod hassured]
  exact startTick_clock [] hassured ht

/-- A tick in HOLDOVER moves T and the holdover's age on, whichever side of the ceiling U then stands (R24, R35). -/
theorem clockTick_figures {s : State} {tm hm : Nat} (hheld : s.clock.time = .holdover) (ht : s.clock.t = some tm)
    (hh : s.clock.h = some hm) : (clockTick s).clock.t = some (min 4294967295 (tm + 1))
      ∧ (clockTick s).clock.h = some (min 4294967295 (hm + 1)) ∧ (clockTick s).clock.osc = s.clock.osc := by
  have hage : s.clock.advanceT.advanceHoldover.h = some (min 4294967295 (hm + 1)) := by
    simp only [Clock.advanceHoldover, Clock.advanceT, hh, Option.map_some]
  rw [clockTick_clock, hheld]
  dsimp only
  split
  · exact ⟨advance_t ht, hage, rfl⟩
  · exact ⟨advance_t ht, hage, rfl⟩

/-- The cycle that finds a second boundary due outside ASSURED is a tick (R23). -/
theorem step_of_boundary {s : State} (hidle : s.pending = []) (hretained : s.retained = true) (hnot : s.clock.time ≠ .assured)
    (hfull : 32768 ≤ s.clock.osc + 1) :
    step s = .next (tick [] (passBoundary (s.setClock { s.clock with osc := s.clock.osc + 1 }))) := by
  have hstep : step s = .next (oscillatorCycle s) := by rw [step, hidle]
  rw [hstep, oscillatorCycle_cases, if_pos hretained, if_neg (not_or.mpr ⟨Nat.not_lt.mpr hfull, hnot⟩)]
  exact congrArg Host.Outcome.next (if_pos (Bool.and_eq_true_iff.mpr ⟨hretained, bne_iff_ne.mpr hnot⟩))

/-- A second boundary passes at the oscillator after main has failed (R23, R181). -/
theorem step_after_fail {t : State} {tm : Nat} (hidle : t.pending = []) (hretained : t.retained = true)
    (hheld : t.clock.time = .holdover) (ht : t.clock.t = some tm) (hh : t.clock.h = some 0) (hfull : 32768 ≤ t.clock.osc + 1) :
    ∃ u, step t = .next u ∧ u.clock.t = some (min 4294967295 (tm + 1)) ∧ u.clock.h = some 1
      ∧ u.clock.osc = t.clock.osc + 1 - 32768 := by
  refine ⟨_, step_of_boundary hidle hretained (by rw [hheld]; nofun) hfull, ?_⟩
  rw [tick_clock]
  generalize hcounted : t.setClock { t.clock with osc := t.clock.osc + 1 } = s
  obtain ⟨ktime, kt, -, kh⟩ := passBoundary_figures s
  have hclock : s.clock = { t.clock with osc := t.clock.osc + 1 } := by rw [← hcounted, setClock_clock]
  rw [hclock] at ktime kt kh
  obtain ⟨hnow, hage, hosc⟩ := clockTick_figures (ktime.trans hheld) (kt.trans ht) (kh.trans hh)
  refine ⟨hnow, hage, hosc.trans ?_⟩
  rw [passBoundary_clock, hclock]

/-- Settles O48. -/
theorem mainPowerFailKeepsTheRetainedDomain : Obligations.MainPowerFailKeepsTheRetainedDomain := by
  refine ⟨fun s => mainPowerFail_keeps, fun s tm hrunning hnext hrun haligned hfresh hperiod hassured ht => ?_,
    fun s tm hon hgood hidle hsettled hassured ht hfull => ?_, fun s => ⟨fun hoff => ?_, fun hon => ?_⟩⟩
  · have hclock := settleDue_of_start hrunning hnext hrun haligned hfresh hperiod hassured ht
    refine ⟨_, exec_mainPowerFail (Bool.and_eq_true_iff.mp hrunning).1, (leftMain_clock ..).trans ?_⟩
    rw [leavingMain_of_assured _ (by rw [hclock]; exact hassured), hclock]
  · have hclock := leftMain_clock s s.supply.failed s.clock.regress
    rw [leavingMain_of_assured _ hassured] at hclock
    have hexec := exec_mainPowerFail hon
    rw [hsettled] at hexec
    have hretained : (s.leftMain s.supply.failed s.clock.regress).retained = true := by
      rw [State.retained, leftMain_supply]
      exact Bool.or_eq_true_iff.mpr (Or.inr hgood)
    obtain ⟨u, hstep, hnow, hage, hosc⟩ := step_after_fail (t := s.leftMain s.supply.failed s.clock.regress) (tm := tm)
      ((leftMain_pending ..).trans hidle) hretained (by rw [hclock]) (by rw [hclock]; exact ht) (by rw [hclock])
      (by rw [hclock]; exact hfull)
    exact ⟨_, u, hexec, hstep, hnow, hage, by rw [hosc, hclock]⟩
  · exact congrArg Host.Outcome.next (if_neg (by rw [hoff]; exact Bool.false_ne_true))
  · exact congrArg Host.Outcome.next (if_pos hon)

end Sys2Proof.Machine
end
